-- ==== Sys2Proof/Word.lean ====
section
/-! DEFINITION. The word types of the engine: spec/00_scope.md R6 (widths) and R7 (notation; every value is unsigned). -/

namespace Sys2Proof

/-- An 8-bit value: a sensor command byte (R13 `CODE`), the word `STATUS` (R20). -/
abbrev Byte := BitVec 8

/-- A 16-bit value: `ACC`, `VAL`, `RAW`, `LAST_TEMP` (R13; `W_ACC` of R6) and the host command word (R60; `W_CW`). -/
abbrev Word := BitVec 16

/-- A 32-bit value of the millisecond clock (R30; `W_CLK` of R6). -/
abbrev Clk := BitVec 32

/-- A line level (R7): `true` is 1, "high"; `false` is 0, "low". -/
abbrev Level := Bool

end Sys2Proof
end

