-- ==== Sys2Proof/Config.lean ====
section
/-! DEFINITION. What an implementation fixes (the OPEN parameters of spec/00_scope.md R6) and the free values:
the answers of the line environment (R46) and of the millisecond clock (R30). None of the opaque constants has a
value that a proof could use. -/

namespace Sys2Proof

/-- The OPEN parameters of R6 that are not widths. A model "takes each `OPEN` parameter as an argument": `State` holds
one of these, no step writes it, and every statement is about every value of it (log 4). -/
structure Params where
  /-- `CMD_TEMP`, the command byte of MEAST (R6, R14). -/
  cmdTemp : Byte
  /-- `CMD_HUMI`, the command byte of MEASH (R6, R14). -/
  cmdHumi : Byte
  /-- `TIMEOUT_MS`, 0 ≤ `TIMEOUT_MS` < 2^32 (R6, R102). -/
  timeoutMs : Clk
deriving DecidableEq, Repr

/-- UNVERIFIED, safe (log 4): the low five bits of `CMD_TEMP`; R69 gives no code as a fact. -/
opaque Config.cmdTempLow : BitVec 5

/-- UNVERIFIED, safe (log 4): how far, less one, `CMD_HUMI`'s low five bits lie past `CMD_TEMP`'s; every pair of
distinct bytes with the address-zero prefix is one of these (R6). -/
opaque Config.cmdHumiGap : Fin 31

/-- UNVERIFIED, safe (log 4): `TIMEOUT_MS` (R6 "OPEN, no default"). -/
opaque Config.timeoutMs : Clk

/-- The parameters of the machine `State.reset` stands for: bits 7:5 of both bytes are 000, the bytes differ, nothing
else is known of them (R6). -/
def Config.params : Params where
  cmdTemp := Config.cmdTempLow.zeroExtend 8
  cmdHumi := (Config.cmdTempLow + BitVec.ofNat 5 (Config.cmdHumiGap.val + 1)).zeroExtend 8
  timeoutMs := Config.timeoutMs

/-- The `n`-th answer of the line environment past the listed ones: "The engine's rules put no law on the answer"
(R46). A free value (log 2). -/
opaque Config.lineAnswer : Nat → Level

/-- The `n`-th answer of the millisecond clock past the listed ones (R30, R83). A free value (log 2). -/
opaque Config.clockAnswer : Nat → Clk

end Sys2Proof
end

