-- ==== Sys2Proof/Syntax.lean ====
section
/-! DEFINITION. The six operations of spec/opcode_table.json (spec/30_encoding.md R62), one constructor a row. -/

namespace Sys2Proof

/-- An operation a command word can name (R62). -/
inductive Instr where
  /-- `SENDCMD c` (R100); `c` is any byte (R63). -/
  | sendcmd (c : Byte)
  /-- `WAITRDY` (R102). -/
  | waitrdy
  /-- `RDWORD` (R105). -/
  | rdword
  /-- `ENDTX` (R108). -/
  | endtx
  /-- `MEAST` (R127). -/
  | meast
  /-- `MEASH` (R128). -/
  | meash
deriving DecidableEq, Repr

end Sys2Proof
end

