-- ==== Sys2Proof/WellFormed.lean ====
section
/-! DEFINITION. Well-formedness: of the OPEN parameters (spec/00_scope.md R6), with one named check for each thing R6
asks of them, and of an instruction (spec/30_encoding.md R63: every operand value is legal). -/

namespace Sys2Proof

/-- R6, R69: "the single fixed 3-bit address-zero prefix" stands in `CMD_TEMP[7:5]`. -/
def Params.tempPrefixOk (p : Params) : Bool := p.cmdTemp.extractLsb 7 5 == 0b000#3

/-- R6, R69: the address-zero prefix stands in `CMD_HUMI[7:5]`. -/
def Params.humiPrefixOk (p : Params) : Bool := p.cmdHumi.extractLsb 7 5 == 0b000#3

/-- R6: `CMD_HUMI` "differs from `CMD_TEMP`". -/
def Params.distinctOk (p : Params) : Bool := p.cmdTemp != p.cmdHumi

/-- All that R6 lets a model assume of the parameters (`TIMEOUT_MS` < 2^32 is its type). -/
def Params.wf (p : Params) : Bool := p.tempPrefixOk && p.humiPrefixOk && p.distinctOk

/-- R63: "For all 8-bit command values" SENDCMD is defined and no other operation has an operand, so the type `Instr`
holds only well-formed instructions. -/
def Instr.wf : Instr → Bool
  | .sendcmd _ => true
  | .waitrdy => true
  | .rdword => true
  | .endtx => true
  | .meast => true
  | .meash => true

end Sys2Proof
end

