-- ==== Sys2Proof/Decode.lean ====
section
/-! DEFINITION. The host command word of spec/30_encoding.md R60 to R65: its fields, the total decoder, which rejects
by name every word that no row of R62 shows, and the encoder, written from the same table. -/

namespace Sys2Proof

/-- Bits 15:11 of a command word, the field `zero` (R60). -/
def fieldZero (w : Word) : BitVec 5 := w.extractLsb' 11 5

/-- Bits 10:8 of a command word, the field `op` (R60). -/
def fieldOp (w : Word) : BitVec 3 := w.extractLsb' 8 3

/-- Bits 7:0 of a command word, the field `arg` (R60). -/
def fieldArg (w : Word) : Byte := w.extractLsb' 0 8

/-- Why a word is illegal (R64 (a) to (d)). Where several hold the first of this order is named; "the reasons of
R64 are not ranked or reported" (R145; log 15). -/
inductive DecodeError where
  /-- R64 (a): one of bits 15:11 is 1. -/
  | zeroFieldSet
  /-- R64 (b): `op` = 0. -/
  | opZero
  /-- R64 (c): `op` = 7. -/
  | opSeven
  /-- R64 (d): `op` is 2 to 6 and `arg` is not 0x00. -/
  | argNotZero
deriving DecidableEq, Repr

/-- An operation without operand: its `arg` must be 0x00 (R60, R64 (d)). -/
def decodeNoOperand (w : Word) (i : Instr) : Except DecodeError Instr :=
  if fieldArg w = 0x00#8 then .ok i else .error .argNotZero

/-- The decoder of R62 and R64: a word is an operation "only if it matches the row's pattern in all 16 bits". -/
def decode (w : Word) : Except DecodeError Instr :=
  if fieldZero w ≠ 0#5 then .error .zeroFieldSet
  else
    match (fieldOp w).toNat with
    | 0 => .error .opZero
    | 1 => .ok (.sendcmd (fieldArg w))
    | 2 => decodeNoOperand w .waitrdy
    | 3 => decodeNoOperand w .rdword
    | 4 => decodeNoOperand w .endtx
    | 5 => decodeNoOperand w .meast
    | 6 => decodeNoOperand w .meash
    | _ => .error .opSeven

/-- A command word from its three fields (R60): `{zero, op, arg}` with `zero` = 0b00000. -/
def commandWord (op : BitVec 3) (arg : Byte) : Word := (0b00000#5 ++ op) ++ arg

/-- The encoder: the one word of each instruction (R62). -/
def encode : Instr → Word
  | .sendcmd c => commandWord 1#3 c
  | .waitrdy => commandWord 2#3 0x00#8
  | .rdword => commandWord 3#3 0x00#8
  | .endtx => commandWord 4#3 0x00#8
  | .meast => commandWord 5#3 0x00#8
  | .meash => commandWord 6#3 0x00#8

/-- The command word whose `nbits` table bits are `w`; every bit above is 0. One 16-bit word on a parallel port: no
byte order (R42, R60). -/
def tableWord (nbits w : Nat) : Word := BitVec.ofNat 16 (w % 2 ^ nbits)

/-- The instruction the decoder reads from an opcode-table row's bits. -/
def decodeTableWord (nbits w : Nat) : Option Instr :=
  match decode (tableWord nbits w) with
  | .ok i => some i
  | .error _ => none

end Sys2Proof
end

