-- ==== Sys2Proof/Machine/State.lean ====
section
/-! DEFINITION. The engine's state (spec/10_state.md), the environment's plain data beside it, the vocabulary of
micro-operations and events (spec/00_scope.md R7), the reasons a step can stop, and the reset state (R35). -/

namespace Sys2Proof.Machine

/-- A line: the bidirectional data line or the clock line (R7, R8). -/
inductive Line where
  | data
  | sck
deriving DecidableEq, Repr

/-- A pad mode (R7, R27). -/
inductive PadMode where
  /-- `OUT`, "output mode". -/
  | out
  /-- `IN`, "plain input". -/
  | plainIn
  /-- `INP`, "input with pull resistor enabled". -/
  | pullIn
deriving DecidableEq, Repr

/-- `SEQ` (R18): which sequencer operation is running. -/
inductive Seq where
  | none
  | temp
  | humi
deriving DecidableEq, Repr

/-- `PH` (R18): the current phase. -/
inductive Phase where
  | idle
  /-- Send command (R100). -/
  | sc
  /-- Wait ready (R102). -/
  | wr
  /-- Read word (R105). -/
  | rw
  /-- End transaction (R108). -/
  | et
deriving DecidableEq, Repr

/-- The record of one micro-operation (R7 "event"). -/
inductive Event where
  /-- `mD:m`, `mC:m`: a mode change (R80). -/
  | mode (l : Line) (m : PadMode)
  /-- `D0`, `D1`, `C0`, `C1`: a driven level (R81). -/
  | drive (l : Line) (v : Level)
  /-- `?b`: a sample of DATA and its answer (R82). -/
  | sample (b : Level)
  /-- `@t`: a clock read and its answer (R83). -/
  | clock (t : Clk)
deriving DecidableEq, Repr

/-- The register writes a micro-program line makes beside a mode change or a drive (R105). -/
inductive RegWrite where
  | nothing
  /-- `ACC <- 0` (RW steps 1 and 31). -/
  | clearAcc
  /-- `VAL <- (ACC * 256) mod 2^16` (RW step 25). -/
  | latchHigh
  /-- `VAL <- VAL | ACC`, `RAW <- VAL | ACC`, inside MEAST also `LAST_TEMP` and `LTV` (RW step 55). -/
  | finishWord
deriving DecidableEq, Repr

/-- Where a sampled bit goes (R82: "the step that performs it says where"). -/
inductive SampleUse where
  /-- `STATUS.ACK1` (SC step 35). -/
  | ack1
  /-- `STATUS.ACK2` (SC step 37). -/
  | ack2
  /-- The ready test of the poll (WR step 2). -/
  | poll
  /-- `ACC <- (ACC*2 + b) mod 2^16` (the samples of RW). -/
  | shift
deriving DecidableEq, Repr

/-- Where a clock answer goes. -/
inductive ClockUse where
  /-- `T0` (WR step 1). -/
  | start
  /-- The deadline test of the poll (WR step 3). -/
  | deadline
deriving DecidableEq, Repr

/-- One line of a micro-program: its micro-operation (R80 to R83) and the register writes beside it. -/
inductive MicroLine where
  /-- `LineMode(l, m)`. -/
  | mode (l : Line) (m : PadMode) (w : RegWrite)
  /-- `LineDrive(l, v)`. -/
  | drive (l : Line) (v : Level) (w : RegWrite)
  /-- `LineSample(DATA)`. -/
  | sample (u : SampleUse)
  /-- `Now()`. -/
  | now (u : ClockUse)
deriving DecidableEq, Repr

/-- Where the micro-sequencer goes after a line (R18). -/
inductive Flow where
  /-- On by one line; the last line of a phase ends the phase. -/
  | advance
  /-- `upc <- n` (WR step 3 when the deadline has not passed). -/
  | goto (n : Nat)
  /-- The phase ends here (the poll's two ends). -/
  | finish
deriving DecidableEq, Repr

/-- The two pad cells (R27). -/
structure Pads where
  /-- `DATA_MODE`. -/
  dataMode : PadMode
  /-- `DATA_LATCH`. -/
  dataLatch : Level
  /-- `SCK_MODE`. -/
  sckMode : PadMode
  /-- `SCK_LATCH`. -/
  sckLatch : Level
deriving DecidableEq, Repr

/-- The levels the host puts on its input ports in one step (R31, R120). -/
structure HostPins where
  /-- `rst` (R160). -/
  rst : Bool
  /-- `cmd_valid`. -/
  cmdValid : Bool
  /-- `cmd_word` (R60). -/
  cmdWord : Word
deriving DecidableEq, Repr

/-- The environment's plain data, the MODEL's own (log 2, log 3, log 7): what the host, the line environment and the
clock will do, and the trace they have seen. A reset does not touch it (R162). -/
structure Env where
  /-- The host's port levels of the steps to come, this step's first; past the end the host is quiet (log 3). -/
  host : List HostPins
  /-- The answers to the samples to come, in order (R46, R84); past the end an opaque free value (log 2). -/
  lineAnswers : List Level
  /-- The answers to the clock reads to come, in order (R30, R84); past the end an opaque free value (log 2). -/
  clockAnswers : List Clk
  /-- How many free line answers have been drawn (log 2). -/
  lineDraws : Nat
  /-- How many free clock answers have been drawn (log 2). -/
  clockDraws : Nat
  /-- The trace (R7), oldest event first. -/
  trace : List Event
deriving DecidableEq, Repr

/-- The whole state: the engine's (R13, R18, R20, R27, R31), the strap (R24), the parameters (R6) and the
environment's data. -/
structure State where
  /-- `SEQ` (R18). -/
  seq : Seq
  /-- `PH` (R18). -/
  ph : Phase
  /-- `UPC` (R18). -/
  upc : Nat
  /-- `CODE` (R14). -/
  code : Byte
  /-- `ACC` (R17). -/
  acc : Word
  /-- `VAL` (R17). -/
  val : Word
  /-- `RAW` (R15). -/
  raw : Word
  /-- `LAST_TEMP` (R16). -/
  lastTemp : Word
  /-- `T0` (R19). -/
  t0 : Clk
  /-- `STATUS.ACK1` (R22). -/
  ack1 : Bool
  /-- `STATUS.ACK2` (R22). -/
  ack2 : Bool
  /-- `STATUS.TMO` (R23). -/
  tmo : Bool
  /-- `STATUS.LTV` (R25). -/
  ltv : Bool
  /-- `STATUS.ILL` (R26). -/
  ill : Bool
  /-- The pad cells (R27). -/
  pads : Pads
  /-- Port `done` of the step that led here (R125; log 8). -/
  done : Bool
  /-- The strap `PULL_EN` (R24; log 5). -/
  pullEn : Bool
  /-- The OPEN parameters (R6; log 4). -/
  params : Params
  /-- The environment's data. -/
  env : Env
deriving DecidableEq, Repr

/-- Why a step can stop with a fault. The spec's engine raises nothing (R140); both constructors are the model's, for
states that no run reaches. -/
inductive Fault where
  /-- Raised by a running phase whose `UPC` is past its last line (R18 gives each phase its range). Safe: unreachable
  (log 10). -/
  | noMicroOp
  /-- Raised by `LineSample(DATA)` while `DATA_MODE` is `OUT`, which R29 says never happens and U11 treats as a fault.
  Safe: unreachable (log 9). -/
  | sampleWhileDriven
deriving DecidableEq, Repr

/-- Why the model refuses. -/
inductive Refusal where
  /-- An instruction with no meaning yet. Raised by no arm of `exec`. Safe. -/
  | notModelled (mnemonic : String)
  /-- Raised by the primitive `ShiftIn(n)` with n > 16, "outside the primitive's domain and is refused by a model"
  (R89, U10); no operation uses it. Safe (log 13). -/
  | shiftInTooWide
deriving DecidableEq, Repr

/-- What a step, a meaning or a micro-program line answers. -/
abbrev Result := Host.Outcome State Fault Refusal

/-- The pads at reset (R35): neither line driven, pull resistor off, latches 0. -/
def Pads.reset : Pads where
  dataMode := .plainIn
  dataLatch := false
  sckMode := .plainIn
  sckLatch := false

/-- An environment with nothing listed (DESIGN CHOICE, log 2 and log 3). -/
def Env.empty : Env where
  host := []
  lineAnswers := []
  clockAnswers := []
  lineDraws := 0
  clockDraws := 0
  trace := []

/-- The machine right after reset: the table of R35; `PULL_EN` at its default 0 (R24); the parameters unknown (R6). -/
def State.reset : State where
  seq := .none
  ph := .idle
  upc := 0
  code := 0x00#8
  acc := 0x0000#16
  val := 0x0000#16
  raw := 0x0000#16
  lastTemp := 0x0000#16
  t0 := 0#32
  ack1 := false
  ack2 := false
  tmo := false
  ltv := false
  ill := false
  pads := Pads.reset
  done := false
  pullEn := false
  params := Config.params
  env := Env.empty

end Sys2Proof.Machine
end

