-- ==== Sys2Proof/Machine/Operands.lean ====
section
/-! DEFINITION. The operands and the arithmetic of the micro-programs: the configured input mode (R24), the command
bits (R14), the ready level and the deadline (R103), the shift-in accumulator and the assembled word (R17). -/

namespace Sys2Proof.Machine

/-- `INMODE` (R6, R24): `IN` when `PULL_EN` = 0, `INP` when `PULL_EN` = 1. -/
def inMode (pullEn : Bool) : PadMode := if pullEn then .pullIn else .plainIn

/-- The bit of `CODE` driven in round `k` of the shift-out, most significant first: `CODE[7 − k]` (R14, R41, R87). -/
def codeBit (code : Byte) (k : Nat) : Level := code.getLsbD (7 - k)

/-- A sample that ends the poll: "The ready level is low" (R103). -/
def isReady (b : Level) : Bool := !b

/-- The milliseconds from `t0` to `t`, `(t − T0) mod 2^32` (R103). -/
def elapsed (t0 t : Clk) : Clk := t - t0

/-- The deadline test of WR step 3: `(t − T0) mod 2^32 ≥ TIMEOUT_MS` (R102). -/
def deadlinePassed (timeout t0 t : Clk) : Bool := decide (timeout.toNat ≤ (elapsed t0 t).toNat)

/-- A sampled bit as a 16-bit value. -/
def bitWord (b : Level) : Word := if b then 1#16 else 0#16

/-- One round of the shift-in: `(ACC*2 + b) mod 2^16` (R17, R89). -/
def accumulate (acc : Word) (b : Level) : Word := acc * 2#16 + bitWord b

/-- The high byte in place: `(ACC * 256) mod 2^16` (R17, RW step 25). -/
def highByte (acc : Word) : Word := acc * 256#16

/-- The assembled word: `VAL | ACC` (R17, RW step 55). -/
def combine (val acc : Word) : Word := val ||| acc

end Sys2Proof.Machine
end

