-- ==== Sys2Proof/Machine/Flags.lean ====
section
/-! DEFINITION. The status flags (spec/10_state.md R20 to R26): who writes each, and the word `STATUS`. No other
definition of the model reads a flag (R20). -/

namespace Sys2Proof.Machine

/-- `BUSY` (R21): "the predicate `PH` ≠ `IDLE`". -/
def State.busy (s : State) : Bool := s.ph != .idle

/-- `ACK1` as sampled (R22, SC step 35). -/
def State.recordAck1 (b : Level) (s : State) : State := { s with ack1 := b }

/-- `ACK2` as sampled (R22, SC step 37). -/
def State.recordAck2 (b : Level) (s : State) : State := { s with ack2 := b }

/-- `TMO` at the end of a poll (R23): 1 on timeout, 0 on the ready level. -/
def State.recordTimeout (timedOut : Bool) (s : State) : State := { s with tmo := timedOut }

/-- `LTV` (R25): set in the step that writes `LAST_TEMP`. -/
def State.recordTemp (v : Word) (s : State) : State := { s with lastTemp := v, ltv := true }

/-- `ILL` (R26): set by an illegal word, sticky. -/
def State.recordIllegal (s : State) : State := { s with ill := true }

/-- A bit at its place in an 8-bit word. -/
def flagAt (i : Nat) (b : Bool) : Byte := if b then 1#8 <<< i else 0#8

/-- The read-only word `STATUS` (R20): bit 0 `BUSY`, 1 `ACK1`, 2 `ACK2`, 3 `TMO`, 4 `LTV`, 5 `ILL`, 7:6 read as 0. -/
def State.status (s : State) : Byte :=
  flagAt 0 s.busy ||| flagAt 1 s.ack1 ||| flagAt 2 s.ack2 ||| flagAt 3 s.tmo ||| flagAt 4 s.ltv ||| flagAt 5 s.ill

end Sys2Proof.Machine
end

