-- ==== Sys2Proof/Machine/Ops.lean ====
section
/-! DEFINITION. The named operations over the environment, the pads and the registers: the environment's answers (R30,
R46), the four line micro-operations (R80 to R83), the register writes of a micro-program line (R105), acceptance
(R121), the illegal word (R130), completion and phase transition (R124, R125), and reset (R160). The engine takes no
exception and returns from none (R140, R146, R147), so no operation here does. -/

namespace Sys2Proof.Machine

/-- The host's port levels `k` steps from now; past the listed ones the host is quiet: no reset, no command word
(DESIGN CHOICE, log 3). -/
def Env.hostAt (e : Env) (k : Nat) : HostPins :=
  e.host.getD k { rst := false, cmdValid := false, cmdWord := 0x0000#16 }

/-- The answer to the `k`-th sample to come: any bit, under no law (R46; log 2). -/
def Env.lineAt (e : Env) (k : Nat) : Level :=
  e.lineAnswers.getD k (Config.lineAnswer (e.lineDraws + (k - e.lineAnswers.length)))

/-- The answer to the `k`-th clock read to come (R30, R83; log 2). -/
def Env.clockAt (e : Env) (k : Nat) : Clk :=
  e.clockAnswers.getD k (Config.clockAnswer (e.clockDraws + (k - e.clockAnswers.length)))

/-- `n` samples have been answered: what `lineAt k` reads after is what `lineAt (n + k)` read before. -/
def Env.skipLine (n : Nat) (e : Env) : Env :=
  { e with lineAnswers := e.lineAnswers.drop n, lineDraws := e.lineDraws + (n - e.lineAnswers.length) }

/-- `n` clock reads have been answered. -/
def Env.skipClock (n : Nat) (e : Env) : Env :=
  { e with clockAnswers := e.clockAnswers.drop n, clockDraws := e.clockDraws + (n - e.clockAnswers.length) }

/-- `n` steps of the host have passed. -/
def Env.skipHost (n : Nat) (e : Env) : Env := { e with host := e.host.drop n }

/-- "appends its event to the trace" (R84). -/
def Env.record (ev : Event) (e : Env) : Env := { e with trace := e.trace ++ [ev] }

/-- What every step does: this step's host levels are used up and `done` is 0 unless the step completes an operation
(R125). -/
def State.tick (s : State) : State := { s with done := false, env := s.env.skipHost 1 }

/-- `LineMode(l, m)` on the pads (R80): "The latch of the line is not changed." -/
def Pads.setMode (l : Line) (m : PadMode) (p : Pads) : Pads :=
  match l with
  | .data => { p with dataMode := m }
  | .sck => { p with sckMode := m }

/-- `LineDrive(l, v)` on the pads (R81); on a line not in mode `OUT` it "would write the latch and leave the line
undriven" (R29). -/
def Pads.setLatch (l : Line) (v : Level) (p : Pads) : Pads :=
  match l with
  | .data => { p with dataLatch := v }
  | .sck => { p with sckLatch := v }

/-- `LineMode(l, m)` and its event (R80). -/
def lineMode (l : Line) (m : PadMode) (s : State) : State :=
  { s with pads := s.pads.setMode l m, env := s.env.record (.mode l m) }

/-- `LineDrive(l, v)` and its event (R81). -/
def lineDrive (l : Line) (v : Level) (s : State) : State :=
  { s with pads := s.pads.setLatch l v, env := s.env.record (.drive l v) }

/-- `LineSample(DATA)` (R82): the answer is `s.env.lineAt 0`; it "Writes nothing by itself", the answer is used up and
the event recorded. -/
def lineSample (s : State) : State :=
  { s with env := (s.env.skipLine 1).record (.sample (s.env.lineAt 0)) }

/-- `Now()` (R83): the answer is `s.env.clockAt 0`; it "Writes nothing by itself". -/
def readClock (s : State) : State :=
  { s with env := (s.env.skipClock 1).record (.clock (s.env.clockAt 0)) }

/-- The end of a receive (RW step 55): `VAL` and `RAW` take the word, and inside MEAST `LAST_TEMP` and `LTV` too, in the
same step (R15, R16, R105, R127). -/
def finishWord (s : State) : State :=
  let v := combine s.val s.acc
  let t := { s with val := v, raw := v }
  match s.seq with
  | .temp => t.recordTemp v
  | .humi => t
  | .none => t

/-- The register writes beside a mode change or a drive (R105). -/
def RegWrite.apply (w : RegWrite) (s : State) : State :=
  match w with
  | .nothing => s
  | .clearAcc => { s with acc := 0x0000#16 }
  | .latchHigh => { s with val := highByte s.acc }
  | .finishWord => Sys2Proof.Machine.finishWord s

/-- Where a sampled bit goes: an acknowledgment flag (R22), `TMO` when the poll ends as ready (R102), or `ACC` (R105). -/
def SampleUse.apply (u : SampleUse) (b : Level) (s : State) : State :=
  match u with
  | .ack1 => s.recordAck1 b
  | .ack2 => s.recordAck2 b
  | .poll => if isReady b then s.recordTimeout false else s
  | .shift => { s with acc := accumulate s.acc b }

/-- Where a clock answer goes: `T0`, or `TMO` when the deadline has passed (R102). -/
def ClockUse.apply (u : ClockUse) (t : Clk) (s : State) : State :=
  match u with
  | .start => { s with t0 := t }
  | .deadline => if deadlinePassed s.params.timeoutMs s.t0 t then s.recordTimeout true else s

/-- The acceptance of a legal word (R121): "No other register changes in the acceptance step." -/
def accept (seq : Seq) (ph : Phase) (code : Byte) (s : State) : State :=
  { s.tick with seq := seq, ph := ph, upc := 0, code := code }

/-- The acceptance of an illegal word (R130): `STATUS.ILL <- 1`, `done` = 1, nothing else. -/
def acceptIllegal (s : State) : State := { s.tick.recordIllegal with done := true }

/-- Completion (R124, R125): idle again, and `done` is 1 in this step. -/
def completeOperation (s : State) : State := { s with seq := .none, ph := .idle, upc := 0, done := true }

/-- The next phase of a sequencer operation (R124). -/
def enterPhase (ph : Phase) (s : State) : State := { s with ph := ph, upc := 0 }

/-- The end of a phase, the table of R124: "The transition is unconditional: no flag, no sampled bit and no timeout
changes it." -/
def endPhase (s : State) : State :=
  match s.seq with
  | .none => completeOperation s
  | .temp | .humi =>
    match s.ph with
    | .sc => enterPhase .wr s
    | .wr => enterPhase .rw s
    | .rw => enterPhase .et s
    | .et => completeOperation s
    | .idle => completeOperation s

/-- A reset step (R160): every piece of engine state to its reset value. The strap and the parameters are not registers
(R162, R176) and the environment goes on, one step later. -/
def resetEngine (s : State) : State :=
  { State.reset with pullEn := s.pullEn, params := s.params, env := s.env.skipHost 1 }

end Sys2Proof.Machine
end

