-- ==== Sys2Proof/Machine/Ports.lean ====
section
/-! DEFINITION. The output ports (spec/10_state.md R31) and what the engine puts on a line (R28), as functions of the
state: "every port shows, at every step, the state after the previous step" (R44). -/

namespace Sys2Proof.Machine

/-- Port `cmd_ready`: not `BUSY` (R21, R31). -/
def State.cmdReady (s : State) : Bool := !s.busy

/-- Port `done` (R125). -/
def State.portDone (s : State) : Bool := s.done

/-- Port `raw`. -/
def State.portRaw (s : State) : Word := s.raw

/-- Port `last_temp`. -/
def State.portLastTemp (s : State) : Word := s.lastTemp

/-- Port `status`. -/
def State.portStatus (s : State) : Byte := s.status

/-- Port `data_oe`: 1 in mode `OUT`. -/
def State.dataOe (s : State) : Bool := s.pads.dataMode == .out

/-- Port `data_pe`: 1 in mode `INP`, the pull resistor connected. -/
def State.dataPe (s : State) : Bool := s.pads.dataMode == .pullIn

/-- Port `data_o`: `DATA_LATCH`. -/
def State.dataO (s : State) : Level := s.pads.dataLatch

/-- Port `sck_oe`: 1 in mode `OUT`. -/
def State.sckOe (s : State) : Bool := s.pads.sckMode == .out

/-- Port `sck_o`: `SCK_LATCH`. -/
def State.sckO (s : State) : Level := s.pads.sckLatch

/-- The level the engine drives on a line: its latch in mode `OUT`, none in an input mode (R28). -/
def Pads.driven (p : Pads) (l : Line) : Option Level :=
  match l with
  | .data => if p.dataMode = .out then some p.dataLatch else none
  | .sck => if p.sckMode = .out then some p.sckLatch else none

end Sys2Proof.Machine
end

