-- ==== Sys2Proof/Machine/Primitives.lean ====
section
/-! DEFINITION. What one line of a micro-program does (R84), the internal primitives of spec/40_line_primitives.md (R85
to R92) as lists of such lines, and how a list is run in one go. None of them can be issued by a command word. -/

namespace Sys2Proof.Machine

/-- One line: its micro-operation, its event and its register writes (R80 to R84). It moves no position. A sample of
DATA while the engine drives it has no rule (R29, U11; log 9). -/
def lineEffect (l : MicroLine) (s : State) : Result :=
  match l with
  | .mode ln m w => .next (w.apply (lineMode ln m s))
  | .drive ln v w => .next (w.apply (lineDrive ln v s))
  | .sample u =>
    if s.pads.dataMode = .out then .fault .sampleWhileDriven
    else .next (u.apply (s.env.lineAt 0) (lineSample s))
  | .now u => .next (u.apply (s.env.clockAt 0) (readClock s))

/-- Where the sequencer goes after a line (R18, R102): on by one, except at the two tests of the poll. -/
def lineFlow (l : MicroLine) (s : State) : Flow :=
  match l with
  | .mode _ _ _ => .advance
  | .drive _ _ _ => .advance
  | .sample .poll => if isReady (s.env.lineAt 0) then .finish else .advance
  | .sample .ack1 => .advance
  | .sample .ack2 => .advance
  | .sample .shift => .advance
  | .now .start => .advance
  | .now .deadline => if deadlinePassed s.params.timeoutMs s.t0 (s.env.clockAt 0) then .finish else .goto 2

/-- A list of lines performed in order, in one go (the "big step" of R84). -/
def runLines (ls : List MicroLine) (s : State) : Result :=
  match ls with
  | [] => .next s
  | l :: rest =>
    match lineEffect l s with
    | .next t => runLines rest t
    | .fault r => .fault r
    | .refused r => .refused r

/-- `PulseSCK()` (R85): `C1 C0`; the register write `w` of the caller stands beside the falling drive. -/
def pulseSck (w : RegWrite) : List MicroLine := [.drive .sck true .nothing, .drive .sck false w]

/-- `BothOut()` (R92): `mD:OUT mC:OUT`, DATA first. -/
def bothOut : List MicroLine := [.mode .data .out .nothing, .mode .sck .out .nothing]

/-- `StartSeq()` (R86): `D1 C1 D0 C0 C1 D1 C0`. -/
def startSeq : List MicroLine :=
  [.drive .data true .nothing, .drive .sck true .nothing, .drive .data false .nothing, .drive .sck false .nothing,
   .drive .sck true .nothing, .drive .data true .nothing, .drive .sck false .nothing]

/-- One bit of the shift-out (R87): `D<bit> C1 C0`. -/
def shiftOutBit (code : Byte) (k : Nat) : List MicroLine :=
  .drive .data (codeBit code k) .nothing :: pulseSck .nothing

/-- `ShiftOut8(c)` (R87): most significant bit first. -/
def shiftOut8 (code : Byte) : List MicroLine :=
  shiftOutBit code 0 ++ shiftOutBit code 1 ++ shiftOutBit code 2 ++ shiftOutBit code 3 ++
  shiftOutBit code 4 ++ shiftOutBit code 5 ++ shiftOutBit code 6 ++ shiftOutBit code 7

/-- `AckRead()` (R88): `mD:<INMODE> C1 ?a1 C0 ?a2`. -/
def ackRead (im : PadMode) : List MicroLine :=
  [.mode .data im .nothing, .drive .sck true .nothing, .sample .ack1, .drive .sck false .nothing, .sample .ack2]

/-- One bit of the shift-in (R89): `C1 ?b C0`; `w` stands beside the falling drive. -/
def shiftInBit (w : RegWrite) : List MicroLine :=
  [.drive .sck true .nothing, .sample .shift, .drive .sck false w]

/-- The `3n` lines of `ShiftIn(n)` (R89); the caller's register write `w` stands beside the last falling drive. -/
def shiftInLines (n : Nat) (w : RegWrite) : List MicroLine :=
  match n with
  | 0 => []
  | 1 => shiftInBit w
  | m + 2 => shiftInBit .nothing ++ shiftInLines (m + 1) w

/-- `MidAck()` (R90): `mD:OUT D1 D0 C1 C0`. -/
def midAck : List MicroLine :=
  [.mode .data .out .nothing, .drive .data true .nothing, .drive .data false .nothing] ++ pulseSck .nothing

/-- `ShiftIn(n)` run by itself (R89): `ACC <- 0`, then `n` bits; "`n` > 16 is outside the primitive's domain and is
refused by a model" (log 13). -/
def runShiftIn (n : Nat) (s : State) : Result :=
  if 16 < n then .refused .shiftInTooWide else runLines (shiftInLines n .nothing) { s with acc := 0x0000#16 }

end Sys2Proof.Machine
end

