-- ==== Sys2Proof/Machine/Sequencer.lean ====
section
/-! DEFINITION. The four micro-programs (spec/41_protocol_ops.md R100, R102, R105, R108), the step that runs one of
their lines (R84) and how a presented command word meets an idle or a busy engine (R120, R126, R145). -/

namespace Sys2Proof.Machine

/-- Phase SC (R100): steps 0, 1 `BothOut`, 2 to 8 `StartSeq`, 9 to 32 `ShiftOut8(CODE)`, 33 to 37 `AckRead`. -/
def scProgram (code : Byte) (im : PadMode) : List MicroLine := bothOut ++ startSeq ++ shiftOut8 code ++ ackRead im

/-- Phase WR (R102): the input mode, the start time, then the loop of a sample and a clock read. -/
def wrProgram (im : PadMode) : List MicroLine :=
  [.mode .data im .nothing, .now .start, .sample .poll, .now .deadline]

/-- Phase RW (R105): steps 2 to 25 and 32 to 55 are `ShiftIn(8)`, 26 to 30 `MidAck`. -/
def rwProgram (im : PadMode) : List MicroLine :=
  [.mode .data im .nothing, .mode .sck .out .clearAcc] ++ shiftInLines 8 .latchHigh ++ midAck ++
  [.mode .data im .clearAcc] ++ shiftInLines 8 .finishWord

/-- Phase ET (R108): `mD:OUT mC:OUT D1 C1 C0`. -/
def etProgram : List MicroLine := bothOut ++ [.drive .data true .nothing] ++ pulseSck .nothing

/-- The micro-program of the running phase, with `CODE` and `INMODE` as they stand in this step (R14, R24). -/
def State.program (s : State) : List MicroLine :=
  match s.ph with
  | .idle => []
  | .sc => scProgram s.code (inMode s.pullEn)
  | .wr => wrProgram (inMode s.pullEn)
  | .rw => rwProgram (inMode s.pullEn)
  | .et => etProgram

/-- The line that (`PH`, `UPC`) names (R18). -/
def State.currentLine (s : State) : Option MicroLine := s.program[s.upc]?

/-- The position after a line (R18): the next line, WR step 2 again, or the end of the phase. -/
def movePosition (f : Flow) (s : State) : State :=
  match f with
  | .advance => if s.upc + 1 = s.program.length then endPhase s else { s with upc := s.upc + 1 }
  | .goto n => { s with upc := n }
  | .finish => endPhase s

/-- One step of a running operation (R84): the micro-operation that (`PH`, `UPC`) names, its register writes, and the
move of the position. A position with no line is unreachable (log 10). -/
def microStep (s : State) : Result :=
  match s.currentLine with
  | none => .fault .noMicroOp
  | some l =>
    match lineEffect l s.tick with
    | .next t => .next (movePosition (lineFlow l s) t)
    | .fault r => .fault r
    | .refused r => .refused r

/-- The step in which the host presents a command word whose acceptance is `start`: an idle engine accepts it (R120,
R121); a busy one does not, "it is not read, leaves no trace, sets no flag, and is not queued" (R126), and the step is
the running operation's (R145; log 1). -/
def present (start : State → State) (s : State) : Result :=
  if s.busy then microStep s else .next (start s)

end Sys2Proof.Machine
end

