-- ==== Sys2Proof/Machine/Measure.lean ====
section
/-! DEFINITION. The meanings of the two sequencer operations (spec/42_sequencer_ops.md): what the step that presents the
word does (R121); the four phases run in the steps that follow, chained by `endPhase` (R124; log 1). -/

namespace Sys2Proof.Machine

/-- `MEAST` (R127): `SEQ <- TEMP`, `CODE <- CMD_TEMP`, `PH <- SC`, `UPC <- 0`. -/
def execMeast (s : State) : Result := present (accept .temp .sc s.params.cmdTemp) s

/-- `MEASH` (R128): `SEQ <- HUMI`, `CODE <- CMD_HUMI`, `PH <- SC`, `UPC <- 0`. -/
def execMeash (s : State) : Result := present (accept .humi .sc s.params.cmdHumi) s

end Sys2Proof.Machine
end

