-- ==== Sys2Proof/Machine/Protocol.lean ====
section
/-! DEFINITION. The meanings of the four protocol operations (spec/41_protocol_ops.md): what the step that presents the
word does (R121); the micro-program of the phase it enters runs in the steps that follow (R84; log 1). -/

namespace Sys2Proof.Machine

/-- `SENDCMD c` (R100): `CODE <- c`, `PH <- SC`, `UPC <- 0`. -/
def execSendcmd (c : Byte) (s : State) : Result := present (accept .none .sc c) s

/-- `WAITRDY` (R102): `PH <- WR`, `UPC <- 0`; `CODE` unchanged. -/
def execWaitrdy (s : State) : Result := present (accept .none .wr s.code) s

/-- `RDWORD` (R105): `PH <- RW`, `UPC <- 0`; `CODE` unchanged. -/
def execRdword (s : State) : Result := present (accept .none .rw s.code) s

/-- `ENDTX` (R108): `PH <- ET`, `UPC <- 0`; `CODE` unchanged. -/
def execEndtx (s : State) : Result := present (accept .none .et s.code) s

end Sys2Proof.Machine
end

