-- ==== Sys2Proof/Machine/Dispatch.lean ====
section
/-! DEFINITION. One arm per operation of spec/opcode_table.json. -/

namespace Sys2Proof.Machine

def exec (i : Instr) (s : State) : Host.Outcome State Fault Refusal :=
  match i with
  | .sendcmd c => Sys2Proof.Machine.execSendcmd c s
  | .waitrdy => Sys2Proof.Machine.execWaitrdy s
  | .rdword => Sys2Proof.Machine.execRdword s
  | .endtx => Sys2Proof.Machine.execEndtx s
  | .meast => Sys2Proof.Machine.execMeast s
  | .meash => Sys2Proof.Machine.execMeash s

end Sys2Proof.Machine
end

