-- ==== Sys2Proof/Machine/Engine.lean ====
section
/-! DEFINITION. One step of the engine with the precedence of R145, and the presenting of a command word at the ports
(R31, R120). Step.lean only calls these. -/

namespace Sys2Proof.Machine

/-- The step in which `cmd_word` is `w` and `cmd_valid` is 1 (R120, R121): a legal word is executed, an illegal one is
accepted when idle and only sets `ILL` (R130). -/
def presentWord (w : Word) (s : State) : Result :=
  match decode w with
  | .ok i => exec i s
  | .error _ => present acceptIllegal s

/-- One step (R145): (1) reset wins; (2) else a running operation performs its micro-operation and `cmd_valid` is
ignored; (3) else a presented word is accepted; (4) else nothing happens. -/
def engineStep (s : State) : Result :=
  let pins := s.env.hostAt 0
  if pins.rst then .next (resetEngine s)
  else if s.busy then microStep s
  else if pins.cmdValid then presentWord pins.cmdWord s
  else .next s.tick

/-- `s` with the host presenting `w` in the next step, no reset asserted and the engine idle (R120), so that the next
step accepts it (log 6). -/
def presentNext (w : Word) (s : State) : State :=
  { s with
    seq := .none, ph := .idle, upc := 0,
    env := { s.env with host := { rst := false, cmdValid := true, cmdWord := w } :: s.env.host.drop 1 } }

end Sys2Proof.Machine
end

