-- ==== Sys2Proof/Machine/Step.lean ====
section
/-! DEFINITION. The step function and the placing of a command word, both by Machine/Engine.lean. -/

namespace Sys2Proof.Machine

/-- One step of the engine (R84, R145). -/
def step (s : State) : Host.Outcome State Fault Refusal := engineStep s

/-- The opcode-table word presented at the host port in the next step (R120; log 6). -/
def State.withFetchWord (s : State) (nbits w : Nat) : State := presentNext (tableWord nbits w) s

end Sys2Proof.Machine
end

