-- ==== Sys2Proof/Safety.lean ====
section
/-! DEFINITION. The terms the claims use: runs of many steps, the invariant of a reachable state (spec/10_state.md R18,
R29), and the spec's own frames (spec/30_encoding.md R67 to R72), poll outcomes (spec/41_protocol_ops.md R102 to R104)
and values (R89, R106), written from those rules and not from the micro-programs. -/

namespace Sys2Proof.Machine

/-! ## Runs -/

/-- `n` steps of the engine. -/
def steps : Nat → State → Result
  | 0, s => .next s
  | n + 1, s =>
    match step s with
    | .next t => steps n t
    | .fault r => .fault r
    | .refused r => .refused r

/-- The acceptance of `i`, then `n` steps. -/
def runOperation (i : Instr) (n : Nat) (s : State) : Result :=
  match exec i s with
  | .next t => steps n t
  | .fault r => .fault r
  | .refused r => .refused r

/-- Operations one after another, each with its number of steps after acceptance (R66). -/
def runProgram : List (Instr × Nat) → State → Result
  | [], s => .next s
  | (i, n) :: rest, s =>
    match runOperation i n s with
    | .next t => runProgram rest t
    | .fault r => .fault r
    | .refused r => .refused r

/-- The host asserts no reset in the next `n` steps. -/
abbrev NoReset (n : Nat) (s : State) : Prop := ∀ k, k < n → (s.env.hostAt k).rst = false

/-- What the environment's data become after `h` steps, `l` samples and `c` clock reads with the events `evs`. -/
def Env.after (h l c : Nat) (evs : List Event) (e : Env) : Env :=
  { ((e.skipHost h).skipLine l).skipClock c with trace := e.trace ++ evs }

/-! ## The invariant -/

/-- The number of lines of each phase (R18, R111); idle has the one position 0. -/
def phaseLength : Phase → Nat
  | .idle => 1
  | .sc => 38
  | .wr => 4
  | .rw => 56
  | .et => 5

/-- The positions at which DATA is already in mode `OUT` (R100, R105, R108). -/
def dataOutAt : Phase → Nat → Bool
  | .idle, _ => false
  | .sc, u => decide (1 ≤ u ∧ u ≤ 33)
  | .wr, _ => false
  | .rw, u => decide (27 ≤ u ∧ u ≤ 31)
  | .et, u => decide (1 ≤ u)

/-- The positions at which DATA is already in mode `INMODE` (R100, R102, R105). -/
def dataInAt : Phase → Nat → Bool
  | .idle, _ => false
  | .sc, u => decide (34 ≤ u)
  | .wr, u => decide (1 ≤ u)
  | .rw, u => decide ((1 ≤ u ∧ u ≤ 26) ∨ 32 ≤ u)
  | .et, _ => false

/-- The positions at which SCK is already in mode `OUT` (R100, R105, R108). -/
def sckOutAt : Phase → Nat → Bool
  | .idle, _ => false
  | .sc, u => decide (2 ≤ u)
  | .wr, _ => false
  | .rw, u => decide (2 ≤ u)
  | .et, u => decide (2 ≤ u)

/-- The positions at which SCK_LATCH is 1: after a `C1` and before the next `C0` (R100, R105, R108). -/
def sckHighAt : Phase → Nat → Bool
  | .idle, _ => false
  | .sc, u => decide (u = 4 ∨ u = 5 ∨ u = 7 ∨ u = 8 ∨ (9 ≤ u ∧ u ≤ 32 ∧ u % 3 = 2) ∨ u = 35 ∨ u = 36)
  | .wr, _ => false
  | .rw, u =>
    decide ((3 ≤ u ∧ u ≤ 25 ∧ u % 3 ≠ 2) ∨ u = 30 ∨ (33 ≤ u ∧ u % 3 ≠ 2))
  | .et, u => decide (u = 4)

/-- What holds of every reachable state. -/
structure EngineInv (s : State) : Prop where
  /-- R18: `UPC` is a position of the phase, and 0 when idle. -/
  upcInRange : s.upc < phaseLength s.ph
  /-- R18: `SEQ` is NONE when idle. -/
  idleSeq : s.ph = .idle → s.seq = .none
  /-- R29: DATA is driven where the phase drives it. -/
  dataDriven : dataOutAt s.ph s.upc = true → s.pads.dataMode = .out
  /-- R29: DATA is in `INMODE` where the phase samples it. -/
  dataReleased : dataInAt s.ph s.upc = true → s.pads.dataMode = inMode s.pullEn
  /-- R29: SCK is driven where the phase pulses it. -/
  sckDriven : sckOutAt s.ph s.upc = true → s.pads.sckMode = .out
  /-- R27: `SCK_MODE` is `OUT` or `IN`. -/
  sckNeverPulled : s.pads.sckMode ≠ .pullIn
  /-- R110: SCK_LATCH is 0 when idle, and at every position it is what the last drive of the phase left. -/
  sckLevel : s.pads.sckLatch = sckHighAt s.ph s.upc
  /-- R125: `done` is 1 only in a completing step. -/
  doneIdle : s.done = true → s.ph = .idle
  /-- R25: while `LTV` = 0, `LAST_TEMP` holds its reset value. -/
  noTempYet : s.ltv = false → s.lastTemp = 0x0000#16
  /-- R6. -/
  paramsLegal : s.params.wf = true

/-! ## The spec's frames, values and poll outcomes -/

/-- `D<v>` (R7). -/
abbrev evD (v : Level) : Event := .drive .data v

/-- `C<v>` (R7). -/
abbrev evC (v : Level) : Event := .drive .sck v

/-- An event with the answer of a sample blotted out: what the engine does, not what it is told. -/
def Event.withoutAnswer : Event → Event
  | .sample _ => .sample false
  | .mode l m => .mode l m
  | .drive l v => .drive l v
  | .clock t => .clock t

/-- R67: `D1 C1 D0 C0 C1 D1 C0`. -/
def wireStart : List Event := [evD true, evC true, evD false, evC false, evC true, evD true, evC false]

/-- R87: `D<c[7]> C1 C0 … D<c[0]> C1 C0`. -/
def wireByte (c : Byte) : List Event :=
  (List.range 8).flatMap fun k => [evD (c.getLsbD (7 - k)), evC true, evC false]

/-- R88: `mD:<INMODE> C1 ?a1 C0 ?a2`. -/
def wireAck (im : PadMode) (a1 a2 : Level) : List Event :=
  [.mode .data im, evC true, .sample a1, evC false, .sample a2]

/-- R100: the 38 events of SENDCMD. -/
def wireCommand (c : Byte) (im : PadMode) (a1 a2 : Level) : List Event :=
  [.mode .data .out, .mode .sck .out] ++ wireStart ++ wireByte c ++ wireAck im a1 a2

/-- R89: `C1 ?b C0` for `n` bits `b 0, b 1, …`. -/
def wireShiftIn (n : Nat) (b : Nat → Level) : List Event :=
  (List.range n).flatMap fun k => [evC true, .sample (b k), evC false]

/-- R90: `mD:OUT D1 D0 C1 C0`. -/
def wireMidAck : List Event := [.mode .data .out, evD true, evD false, evC true, evC false]

/-- R70: the 56 events of RDWORD for the sixteen samples `b 0, …, b 15`. -/
def wireData (im : PadMode) (b : Nat → Level) : List Event :=
  [.mode .data im, .mode .sck .out] ++ wireShiftIn 8 b ++ wireMidAck ++ [.mode .data im] ++
  wireShiftIn 8 fun k => b (8 + k)

/-- R71: `mD:OUT mC:OUT D1 C1 C0`. -/
def wireEnd : List Event := [.mode .data .out, .mode .sck .out, evD true, evC true, evC false]

/-- R102: the poll's events when `j` iterations find neither end and the next one ends it: by the ready level, or by
the deadline (`timedOut`); `t k` is the `k`-th clock answer, `t 0` the start time. -/
def wirePoll (im : PadMode) (j : Nat) (timedOut : Bool) (t : Nat → Clk) : List Event :=
  [.mode .data im, .clock (t 0)] ++ ((List.range j).flatMap fun i => [.sample true, .clock (t (i + 1))]) ++
  if timedOut then [.sample true, .clock (t (j + 1))] else [.sample false]

/-- R102 to R104: how a poll ends whose samples are `b 0, b 1, …` and whose clock answers are `t 0` (the start), `t 1`,
…: `j` iterations sample 1 before the deadline; then the sample is 0 (ready), or it is 1 and the deadline has passed. -/
def PollEnds (timeout : Clk) (b : Nat → Level) (t : Nat → Clk) (j : Nat) (timedOut : Bool) : Prop :=
  (∀ i, i < j → b i = true ∧ (t (i + 1) - t 0).toNat < timeout.toNat) ∧
  b j = timedOut ∧ (timedOut = true → timeout.toNat ≤ (t (j + 1) - t 0).toNat)

/-- R111: the number of micro-operations of such a poll. -/
def pollLength (j : Nat) (timedOut : Bool) : Nat := 2 + 2 * j + if timedOut then 2 else 1

/-- The number of clock reads of such a poll. -/
def pollReads (j : Nat) (timedOut : Bool) : Nat := 1 + j + if timedOut then 1 else 0

/-- R89: the value of `n` bits, first bit highest: Σ `b i` · 2^(n − 1 − i), the first index here being 0. -/
def bitsValue (n : Nat) (b : Nat → Level) : Nat :=
  ((List.range n).map fun i => (b i).toNat * 2 ^ (n - 1 - i)).sum

/-- That value as a 16-bit word. -/
def bitsWord (n : Nat) (b : Nat → Level) : Word := BitVec.ofNat 16 (bitsValue n b)

/-- R110: the pads after ENDTX, MEAST and MEASH. -/
def padsAfterEnd : Pads where
  dataMode := .out
  dataLatch := true
  sckMode := .out
  sckLatch := false

/-- The state but for the stored flags (R20). -/
def State.withoutFlags (s : State) : State :=
  { s with ack1 := false, ack2 := false, tmo := false, ltv := false, ill := false }

/-- A result with every next state rewritten. -/
def mapNext (f : State → State) (r : Result) : Result :=
  match r with
  | .next t => .next (f t)
  | .fault e => .fault e
  | .refused e => .refused e

/-- R124: the steps that end a phase. -/
def EndsPhase (s : State) : Prop :=
  (s.ph = .sc ∧ s.upc = 37) ∨ (s.ph = .rw ∧ s.upc = 55) ∨ (s.ph = .et ∧ s.upc = 4) ∨
  (s.ph = .wr ∧ s.upc = 2 ∧ s.env.lineAt 0 = false) ∨
  (s.ph = .wr ∧ s.upc = 3 ∧ s.params.timeoutMs.toNat ≤ (s.env.clockAt 0 - s.t0).toNat)

/-- R124: the phase after a phase's end. -/
def nextPhase : Seq → Phase → Phase
  | .none, _ => .idle
  | _, .sc => .wr
  | _, .wr => .rw
  | _, .rw => .et
  | _, .et => .idle
  | _, .idle => .idle

end Sys2Proof.Machine
end

