-- ==== Sys2Proof/Certificates/Slice0/Obligations.lean ====
section
/-! DEFINITION. The statements for the provers, in the order of OBLIGATIONS.json. In every statement the component
`env` is the model's own bookkeeping of the environment, not a rule of the spec: the host's input levels step by step
(log 3), the answers to samples and clock reads, of which `lineAt k` and `clockAt k` are the `k`-th to come, whatever
they are (log 2), and the trace (log 7). In every statement the component `done` of a state is the strobe of the step
that led to that state: that the port shows it there, beside the registers of that state, is the model's reading of
R125 and R44 (log 8). -/

open Sys2Proof Sys2Proof.Machine

/-! ## The command word (spec/30_encoding.md) -/

/-- R62: the operation map, every row and both directions: a word is an operation exactly when it has the row's 16
bits; `SENDCMD c` is `0x0100 | c` for every `c`. -/
def Obligations.DecodeFollowsOperationMap : Prop :=
  ∀ (w : Word) (i : Instr), decode w = .ok i ↔
    (∃ c : Byte, w = 0x0100#16 ||| c.zeroExtend 16 ∧ i = .sendcmd c) ∨ (w = 0x0200#16 ∧ i = .waitrdy) ∨
    (w = 0x0300#16 ∧ i = .rdword) ∨ (w = 0x0400#16 ∧ i = .endtx) ∨ (w = 0x0500#16 ∧ i = .meast) ∨
    (w = 0x0600#16 ∧ i = .meash)

/-- Decoder and encoder are inverse to each other, on every word and every well-formed instruction (R60, R62, R63). -/
def Obligations.DecodeAndEncodeAgree : Prop :=
  (∀ i : Instr, i.wf = true → decode (encode i) = .ok i) ∧
  ∀ (w : Word) (i : Instr), decode w = .ok i → i.wf = true ∧ encode i = w

/-- R64 (a) to (d): the decoder rejects exactly the illegal words. -/
def Obligations.DecodeRejectsExactlyIllegalWords : Prop :=
  ∀ w : Word, (∃ e, decode w = .error e) ↔
    (w.extractLsb 15 11 ≠ 0#5 ∨ w.extractLsb 10 8 = 0#3 ∨ w.extractLsb 10 8 = 7#3 ∨
      (2 ≤ (w.extractLsb 10 8).toNat ∧ (w.extractLsb 10 8).toNat ≤ 6 ∧ w.extractLsb 7 0 ≠ 0x00#8))

/-- R64: "Of the 65536 words, 256 + 5 = 261 are legal." -/
def Obligations.LegalWordsNumber261 : Prop :=
  (Finset.univ.filter fun n : Fin 65536 => (decode (BitVec.ofFin n)).isOk = true).card = 261

/-- Words written out from R62 and the examples T50 to T55 decode to what they stand for; which reason an illegal word
gets is the model's choice (log 15). -/
def Obligations.DecodeOfWrittenOutWords : Prop :=
  decode 0b0000000100000011#16 = .ok (.sendcmd 0x03#8) ∧ decode 0b0000000111111111#16 = .ok (.sendcmd 0xFF#8) ∧
  decode 0b0000001000000000#16 = .ok .waitrdy ∧ decode 0b0000001100000000#16 = .ok .rdword ∧
  decode 0b0000010000000000#16 = .ok .endtx ∧ decode 0b0000010100000000#16 = .ok .meast ∧
  decode 0b0000011000000000#16 = .ok .meash ∧ decode 0x0000#16 = .error .opZero ∧
  decode 0x0700#16 = .error .opSeven ∧ decode 0x0201#16 = .error .argNotZero ∧
  decode 0x0801#16 = .error .zeroFieldSet

/-! ## Acceptance (spec/42_sequencer_ops.md) -/

/-- When no reset is asserted and the presented word decodes to a well-formed instruction, the step is exec of it: the
acceptance when the engine is idle (R120), the running micro-operation when it is busy (R126). The step adds nothing
around exec. That `exec` is this step, and not the whole operation, is the model's choice (log 1). -/
def Obligations.StepRunsDecodedInstruction : Prop :=
  ∀ (s : State) (i : Instr), (s.env.hostAt 0).rst = false → (s.env.hostAt 0).cmdValid = true →
    decode (s.env.hostAt 0).cmdWord = .ok i → i.wf = true → step s = exec i s

/-- R121: what the acceptance step of each of the six operations sets, and that nothing else changes but `done`, which
is 0 (R125), and the host's schedule, which moves on by this step (log 3). The illegal words of R121's last row are
IllegalWordOnlySetsIll's. -/
def Obligations.AcceptanceStepSetsPosition : Prop :=
  ∀ s : State, s.ph = .idle →
    (∀ c : Byte, exec (.sendcmd c) s =
      .next { s with seq := .none, ph := .sc, upc := 0, code := c, done := false, env := s.env.skipHost 1 }) ∧
    exec .waitrdy s = .next { s with seq := .none, ph := .wr, upc := 0, done := false, env := s.env.skipHost 1 } ∧
    exec .rdword s = .next { s with seq := .none, ph := .rw, upc := 0, done := false, env := s.env.skipHost 1 } ∧
    exec .endtx s = .next { s with seq := .none, ph := .et, upc := 0, done := false, env := s.env.skipHost 1 } ∧
    exec .meast s = .next { s with
      seq := .temp, ph := .sc, upc := 0, code := s.params.cmdTemp, done := false, env := s.env.skipHost 1 } ∧
    exec .meash s = .next { s with
      seq := .humi, ph := .sc, upc := 0, code := s.params.cmdHumi, done := false, env := s.env.skipHost 1 }

/-- R130: an accepted illegal word sets `ILL`, `done` is 1, and nothing else changes. -/
def Obligations.IllegalWordOnlySetsIll : Prop :=
  ∀ (s : State) (e : DecodeError), s.ph = .idle → (s.env.hostAt 0).rst = false → (s.env.hostAt 0).cmdValid = true →
    decode (s.env.hostAt 0).cmdWord = .error e →
    step s = .next { s with ill := true, done := true, env := s.env.skipHost 1 }

/-- R145 (4), R154: idle with no reset and no word, nothing happens but that `done` is 0. -/
def Obligations.IdleStepChangesNothing : Prop :=
  ∀ s : State, s.ph = .idle → (s.env.hostAt 0).rst = false → (s.env.hostAt 0).cmdValid = false →
    step s = .next { s with done := false, env := s.env.skipHost 1 }

/-- R126: as long as the engine is busy and no reset is asserted, what the host presents on the command port
makes no difference: two runs that differ only in the presented words stay equal but for the words still to come. -/
def Obligations.BusyEngineIgnoresCommandPort : Prop :=
  ∀ (n : Nat) (s : State) (h : List HostPins), NoReset n s → NoReset n { s with env := { s.env with host := h } } →
    (∀ k t, k < n → steps k s = .next t → t.busy = true) →
    steps n { s with env := { s.env with host := h } } =
      mapNext (fun t => { t with env := { t.env with host := h.drop n } }) (steps n s)

/-! ## Reset (spec/10_state.md R35, spec/70_reset_and_hazards.md) -/

/-- R35: the reset values, every row of the table. -/
def Obligations.ResetStateHasTableValues : Prop :=
  State.reset.seq = .none ∧ State.reset.ph = .idle ∧ State.reset.upc = 0 ∧ State.reset.code = 0x00#8 ∧
  State.reset.acc = 0x0000#16 ∧ State.reset.val = 0x0000#16 ∧ State.reset.t0 = 0#32 ∧ State.reset.raw = 0x0000#16 ∧
  State.reset.lastTemp = 0x0000#16 ∧ State.reset.status = 0x00#8 ∧ State.reset.pads.dataMode = .plainIn ∧
  State.reset.pads.sckMode = .plainIn ∧ State.reset.pads.dataLatch = false ∧ State.reset.pads.sckLatch = false ∧
  State.reset.done = false ∧ State.reset.cmdReady = true

/-- R160, R161, R162: with `rst` asserted, in any state (a running operation too), every piece of engine state takes its
reset value, `done` is 0, no event is recorded, and the strap, the parameters, the samples and the clock answers to
come stay. -/
def Obligations.ResetStepResetsEngine : Prop :=
  ∀ s : State, (s.env.hostAt 0).rst = true →
    step s = .next { s with
      seq := .none, ph := .idle, upc := 0, code := 0x00#8, acc := 0x0000#16, val := 0x0000#16, raw := 0x0000#16,
      lastTemp := 0x0000#16, t0 := 0#32, ack1 := false, ack2 := false, tmo := false, ltv := false, ill := false,
      pads := { dataMode := .plainIn, dataLatch := false, sckMode := .plainIn, sckLatch := false }, done := false,
      env := s.env.skipHost 1 }

/-! ## The micro-operations and the primitives (spec/40_line_primitives.md) -/

/-- R80, R81: a mode change changes the one mode, a drive the one latch, each with its event, and nothing else. -/
def Obligations.ModeAndDriveChangeOneField : Prop :=
  ∀ (s : State) (m : PadMode) (v : Level),
    lineEffect (.mode .data m .nothing) s = .next { s with
      pads := { s.pads with dataMode := m }, env := { s.env with trace := s.env.trace ++ [.mode .data m] } } ∧
    lineEffect (.mode .sck m .nothing) s = .next { s with
      pads := { s.pads with sckMode := m }, env := { s.env with trace := s.env.trace ++ [.mode .sck m] } } ∧
    lineEffect (.drive .data v .nothing) s = .next { s with
      pads := { s.pads with dataLatch := v }, env := { s.env with trace := s.env.trace ++ [.drive .data v] } } ∧
    lineEffect (.drive .sck v .nothing) s = .next { s with
      pads := { s.pads with sckLatch := v }, env := { s.env with trace := s.env.trace ++ [.drive .sck v] } }

/-- R82, R83: a sample takes the next line answer and a clock read the next clock answer, wherever the answer goes; with
its event; pads, position, `CODE`, `VAL`, `RAW`, `LAST_TEMP`, `LTV` and `ILL` are untouched. The sample needs DATA
released (R29; log 9). -/
def Obligations.SampleAndClockReadTakeNextAnswer : Prop :=
  (∀ (s : State) (u : SampleUse), s.pads.dataMode ≠ .out →
    ∃ t, lineEffect (.sample u) s = .next t ∧ t.env = s.env.after 0 1 0 [.sample (s.env.lineAt 0)] ∧
      t = { s with ack1 := t.ack1, ack2 := t.ack2, tmo := t.tmo, acc := t.acc, env := t.env } ∧
      (u = .ack1 → t = { s with ack1 := s.env.lineAt 0, env := t.env }) ∧
      (u = .ack2 → t = { s with ack2 := s.env.lineAt 0, env := t.env })) ∧
  ∀ (s : State) (u : ClockUse),
    ∃ t, lineEffect (.now u) s = .next t ∧ t.env = s.env.after 0 0 1 [.clock (s.env.clockAt 0)] ∧
      t = { s with t0 := t.t0, tmo := t.tmo, env := t.env } ∧
      (u = .start → t = { s with t0 := s.env.clockAt 0, env := t.env })

/-- R28: in mode `OUT` a line is driven to its latch, in an input mode it is not driven, and a change to `OUT` drives it
to what the latch already holds. -/
def Obligations.LineShowsLatchOnlyInOutputMode : Prop :=
  ∀ (p : Pads) (m : PadMode),
    (p.dataMode = .out → p.driven .data = some p.dataLatch) ∧ (p.dataMode ≠ .out → p.driven .data = none) ∧
    (p.sckMode = .out → p.driven .sck = some p.sckLatch) ∧ (p.sckMode ≠ .out → p.driven .sck = none) ∧
    (p.setMode .data .out).driven .data = some p.dataLatch ∧ (p.setMode .sck .out).driven .sck = some p.sckLatch ∧
    (m ≠ .out → (p.setMode .data m).driven .data = none)

/-- R31, R28: what the pad ports show. DATA: `data_oe` is 1 exactly in mode `OUT`, `data_pe` exactly in mode `INP`,
`data_o` is the latch; SCK: `sck_oe` is 1 exactly in mode `OUT`, `sck_o` is the latch; `raw`, `last_temp` and `status`
show the state's registers. The last clause, that port `done` shows the state's field `done`, is no rule of the spec but
the model's reading (log 8, DEDUCED): R125 puts `done` in the completing step and `cmd_ready` = 1 from the next, and the
model shows both in the one state after the completing step. -/
def Obligations.PortsShowTheState : Prop :=
  ∀ s : State,
    (s.dataOe = true ↔ s.pads.dataMode = .out) ∧ (s.dataPe = true ↔ s.pads.dataMode = .pullIn) ∧
    s.dataO = s.pads.dataLatch ∧ (s.sckOe = true ↔ s.pads.sckMode = .out) ∧ s.sckO = s.pads.sckLatch ∧
    s.portRaw = s.raw ∧ s.portLastTemp = s.lastTemp ∧ s.portStatus = s.status ∧ s.portDone = s.done

/-- R85, R86, R90, R92: the events of the fixed primitives, the pads they leave, and that they change nothing else. -/
def Obligations.FixedPrimitivesProduceTheirFrames : Prop :=
  ∀ s : State,
    runLines (pulseSck .nothing) s = .next { s with
      pads := { s.pads with sckLatch := false }, env := s.env.after 0 0 0 [evC true, evC false] } ∧
    runLines bothOut s = .next { s with
      pads := { s.pads with dataMode := .out, sckMode := .out },
      env := s.env.after 0 0 0 [.mode .data .out, .mode .sck .out] } ∧
    runLines startSeq s = .next { s with
      pads := { s.pads with dataLatch := true, sckLatch := false },
      env := s.env.after 0 0 0 [evD true, evC true, evD false, evC false, evC true, evD true, evC false] } ∧
    runLines midAck s = .next { s with
      pads := { s.pads with dataMode := .out, dataLatch := false, sckLatch := false },
      env := s.env.after 0 0 0 [.mode .data .out, evD true, evD false, evC true, evC false] }

/-- R88: the acknowledgment read records the two samples and compares them with nothing. -/
def Obligations.AckReadRecordsBothSamples : Prop :=
  ∀ s : State,
    runLines (ackRead (inMode s.pullEn)) s = .next { s with
      ack1 := s.env.lineAt 0, ack2 := s.env.lineAt 1,
      pads := { s.pads with dataMode := inMode s.pullEn, sckLatch := false },
      env := s.env.after 0 2 0 (wireAck (inMode s.pullEn) (s.env.lineAt 0) (s.env.lineAt 1)) }

/-- R89: for `n` ≤ 16 and DATA released, `ShiftIn(n)` returns in `ACC` the sum of its samples, first sample highest,
below 2^n, with the events `C1 ?b C0` per bit and nothing else changed but SCK's latch; for `n` = 0 no event and 0; for
`n` > 16 it is refused. -/
def Obligations.ShiftInReturnsSampledValue : Prop :=
  ∀ (n : Nat) (s : State),
    (n ≤ 16 → s.pads.dataMode ≠ .out →
      ∃ t, runShiftIn n s = .next t ∧ t.acc.toNat = bitsValue n s.env.lineAt ∧ t.acc.toNat < 2 ^ n ∧
        t = { s with
          acc := t.acc, pads := { s.pads with sckLatch := if n = 0 then s.pads.sckLatch else false },
          env := s.env.after 0 n 0 (wireShiftIn n s.env.lineAt) }) ∧
    (16 < n → runShiftIn n s = .refused .shiftInTooWide)

/-- R91: the bit-order round trip, for every byte: if the next eight line answers are the eight DATA levels that
`ShiftOut8(c)` drives, in order, then `ShiftIn(8)` after it returns `c`. The spec marks R91 as its own inference. -/
def Obligations.LoopbackReturnsTheByteSent : Prop :=
  ∀ (c : Byte) (s t : State), runLines (shiftOut8 c) s = .next t →
    (∀ k, k < 8 → (t.env.trace.drop s.env.trace.length)[3 * k]? = some (.drive .data (t.env.lineAt k))) →
    ∃ u, runShiftIn 8 { t with pads := { t.pads with dataMode := inMode t.pullEn } } = .next u ∧
      u.acc = c.zeroExtend 16

/-! ## The micro-sequencer (spec/10_state.md R18, R29; spec/42_sequencer_ops.md R124, R125) -/

/-- The state `State.reset` satisfies the invariant (logs 4 and 11). -/
def Obligations.ResetSatisfiesInvariant : Prop := EngineInv State.reset

/-- Every step keeps the invariant: position in range, SCK's latch a function of the position, DATA driven and released
where the phase needs it, `LAST_TEMP` at its reset value while `LTV` = 0 (log 11), the parameters legal (log 4). -/
def Obligations.EveryStepKeepsInvariant : Prop := ∀ s t : State, EngineInv s → step s = .next t → EngineInv t

/-- R140: nothing the engine does ends in a fault or a refusal: from every state of the invariant any number of steps is
answered. The two faults this rules out are the model's own (logs 9 and 10). -/
def Obligations.EngineNeverStops : Prop :=
  ∀ (n : Nat) (s : State), EngineInv s → ∃ t, steps n s = .next t ∧ EngineInv t

/-- R29: a line is driven only in mode `OUT`; DATA is sampled only in mode `INMODE`. The spec marks R29 as its own
inference. -/
def Obligations.DrivesOnlyOutputsSamplesOnlyInputs : Prop :=
  ∀ s : State, EngineInv s →
    (∀ v w, s.currentLine = some (.drive .data v w) → s.pads.dataMode = .out) ∧
    (∀ v w, s.currentLine = some (.drive .sck v w) → s.pads.sckMode = .out) ∧
    ∀ u, s.currentLine = some (.sample u) → s.pads.dataMode = inMode s.pullEn

/-- R18: every step of a running operation that does not end its phase advances `UPC` by 1, but WR step 3, which goes
back to 2; phase and sequencer stay and `done` is 0. -/
def Obligations.PositionAdvancesWithinPhase : Prop :=
  ∀ s : State, EngineInv s → s.busy = true → (s.env.hostAt 0).rst = false → ¬ EndsPhase s →
    ∃ t, step s = .next t ∧ t.ph = s.ph ∧ t.seq = s.seq ∧ t.done = false ∧
      t.upc = if s.ph = .wr ∧ s.upc = 3 then 2 else s.upc + 1

/-- R124: the last step of a phase goes to the phase of the table, whatever was sampled and whatever the flags are; and
the operation completes (R125) exactly when that phase is IDLE. -/
def Obligations.PhaseEndFollowsTable : Prop :=
  ∀ s : State, EngineInv s → (s.env.hostAt 0).rst = false → EndsPhase s →
    ∃ t, step s = .next t ∧ t.upc = 0 ∧ t.ph = nextPhase s.seq s.ph ∧
      t.seq = (if nextPhase s.seq s.ph = .idle then .none else s.seq) ∧
      t.done = decide (nextPhase s.seq s.ph = .idle)

/-- R125: `done` is 1 exactly after a step that completes an operation: one that ends a running one, or one that accepts
an illegal word. That the field `done` of the state after a step is the port in that step is the model's reading
(log 8). -/
def Obligations.DoneMarksExactlyCompletion : Prop :=
  ∀ s t : State, step s = .next t →
    (t.done = true ↔ (s.env.hostAt 0).rst = false ∧
      ((s.ph ≠ .idle ∧ t.ph = .idle) ∨
        (s.ph = .idle ∧ (s.env.hostAt 0).cmdValid = true ∧ ∃ e, decode (s.env.hostAt 0).cmdWord = .error e)))

/-- R48, R84: a step of a running operation appends exactly one event; every other step appends none. -/
def Obligations.OneEventPerMicroOperation : Prop :=
  ∀ s t : State, step s = .next t →
    if s.busy = true ∧ (s.env.hostAt 0).rst = false then ∃ e, t.env.trace = s.env.trace ++ [e]
    else t.env.trace = s.env.trace

/-- R84: a phase of fixed length run step by step and its micro-program run in one go agree, in the final state and in
the trace. -/
def Obligations.StepsRefineThePhaseRunInOneGo : Prop :=
  ∀ s : State, EngineInv s → s.upc = 0 → (s.ph = .sc ∨ s.ph = .rw ∨ s.ph = .et) → NoReset (phaseLength s.ph) s →
    ∃ t, runLines s.program s = .next t ∧
      steps (phaseLength s.ph) s =
        .next (endPhase { t with done := false, env := t.env.skipHost (phaseLength s.ph) })

/-! ## Who writes what (spec/10_state.md R14 to R26) -/

/-- R15: without a reset, `RAW` changes only at RW step 55, where it takes `VAL | ACC` whole. -/
def Obligations.RawWrittenOnlyAtEndOfReceive : Prop :=
  ∀ s t : State, step s = .next t → (s.env.hostAt 0).rst = false →
    if s.ph = .rw ∧ s.upc = 55 then t.raw = s.val ||| s.acc ∧ t.val = s.val ||| s.acc else t.raw = s.raw

/-- R16, R25: without a reset, `LAST_TEMP` and `LTV` change only at RW step 55 of MEAST, in the same step as `RAW` and
with the same value. -/
def Obligations.LastTempWrittenOnlyByMeast : Prop :=
  ∀ s t : State, step s = .next t → (s.env.hostAt 0).rst = false →
    if s.ph = .rw ∧ s.upc = 55 ∧ s.seq = .temp then t.lastTemp = s.val ||| s.acc ∧ t.lastTemp = t.raw ∧ t.ltv = true
    else t.lastTemp = s.lastTemp ∧ t.ltv = s.ltv

/-- R22, R23, R26: without a reset, `ACK1` changes only at SC step 35 and `ACK2` only at SC step 37, to the bit sampled;
`TMO` only where a poll ends, 0 by the ready level and 1 by the deadline; `ILL` only by an accepted illegal word, to 1. -/
def Obligations.FlagsWrittenOnlyWhereTheTableSays : Prop :=
  ∀ s t : State, step s = .next t → (s.env.hostAt 0).rst = false →
    t.ack1 = (if s.ph = .sc ∧ s.upc = 35 then s.env.lineAt 0 else s.ack1) ∧
    t.ack2 = (if s.ph = .sc ∧ s.upc = 37 then s.env.lineAt 0 else s.ack2) ∧
    t.tmo = (if s.ph = .wr ∧ s.upc = 2 ∧ s.env.lineAt 0 = false then false
      else if s.ph = .wr ∧ s.upc = 3 ∧ s.params.timeoutMs.toNat ≤ (s.env.clockAt 0 - s.t0).toNat then true
      else s.tmo) ∧
    (t.ill = true ↔ s.ill = true ∨
      (s.ph = .idle ∧ (s.env.hostAt 0).cmdValid = true ∧ ∃ e, decode (s.env.hostAt 0).cmdWord = .error e))

/-- R14, R19: without a reset, a running operation never changes `CODE`, and `T0` changes only at WR step 1, to the clock
answer. -/
def Obligations.CodeAndStartTimeHoldDuringOperation : Prop :=
  ∀ s t : State, step s = .next t → (s.env.hostAt 0).rst = false →
    (s.busy = true → t.code = s.code) ∧ t.t0 = if s.ph = .wr ∧ s.upc = 1 then s.env.clockAt 0 else s.t0

/-- No step, a reset step included, changes the strap `PULL_EN` or a parameter (R24, R162, R176); the spec
gives them no move (logs 4 and 5). -/
def Obligations.NoStepChangesStrapOrParameters : Prop :=
  ∀ s t : State, step s = .next t → t.pullEn = s.pullEn ∧ t.params = s.params

/-- R20: the bits of `STATUS`, with bits 7:6 reading as 0, and R21: `BUSY` is `PH` ≠ `IDLE`, `cmd_ready` its
complement. -/
def Obligations.StatusWordHasItsBits : Prop :=
  ∀ s : State, s.status.getLsbD 0 = decide (s.ph ≠ .idle) ∧ s.status.getLsbD 1 = s.ack1 ∧
    s.status.getLsbD 2 = s.ack2 ∧ s.status.getLsbD 3 = s.tmo ∧ s.status.getLsbD 4 = s.ltv ∧
    s.status.getLsbD 5 = s.ill ∧ s.status.getLsbD 6 = false ∧ s.status.getLsbD 7 = false ∧
    s.cmdReady = decide (s.ph = .idle)

/-- R20: nothing reads a flag: two states that differ only in the five stored flags run alike for ever, in the same
events, registers, pads and positions, and differ only in those flags. -/
def Obligations.NothingReadsTheFlags : Prop :=
  ∀ (n : Nat) (s s' : State), s.withoutFlags = s'.withoutFlags →
    mapNext State.withoutFlags (steps n s) = mapNext State.withoutFlags (steps n s')

/-! ## The operations as a whole (spec/41_protocol_ops.md, spec/42_sequencer_ops.md) -/

/-- R100: `SENDCMD c` for every byte `c` from every idle state: accepted, and 38 steps later complete, with exactly the
events of the frame, the two flags, the pads of R110, and nothing else changed. -/
def Obligations.SendcmdRunsToCompletion : Prop :=
  ∀ (c : Byte) (s : State), s.ph = .idle → NoReset 39 s →
    ∃ t, exec (.sendcmd c) s = .next t ∧ t.ph = .sc ∧ t.upc = 0 ∧ t.code = c ∧ steps 38 t = .next { s with
      seq := .none, ph := .idle, upc := 0, code := c, ack1 := s.env.lineAt 0, ack2 := s.env.lineAt 1,
      pads := { dataMode := inMode s.pullEn, dataLatch := c.getLsbD 0, sckMode := .out, sckLatch := false },
      done := true,
      env := s.env.after 39 2 0 (wireCommand c (inMode s.pullEn) (s.env.lineAt 0) (s.env.lineAt 1)) }

/-- R101: whatever the acknowledgment samples are, SENDCMD drives the same events and leaves the same pads: two runs
whose line answers differ agree in every event that is not a sample. -/
def Obligations.SendcmdDrivesTheSameForAllAcknowledgments : Prop :=
  ∀ (c : Byte) (s : State) (answers : List Level), s.ph = .idle → NoReset 39 s →
    ∃ t u, runOperation (.sendcmd c) 38 s = .next t ∧
      runOperation (.sendcmd c) 38 { s with env := { s.env with lineAnswers := answers } } = .next u ∧
      t.ph = .idle ∧ u.ph = .idle ∧ t.done = true ∧ u.done = true ∧ t.pads = u.pads ∧
      t.env.trace.map Event.withoutAnswer = u.env.trace.map Event.withoutAnswer

/-- R102, R103: `WAITRDY` from every idle state, for a poll that ends after `j` whole iterations: it completes with `T0`
the first clock answer, `TMO` telling which end it was, and nothing else changed; SCK is not touched. -/
def Obligations.WaitrdyEndsByReadyOrDeadline : Prop :=
  ∀ (j : Nat) (timedOut : Bool) (s : State), s.ph = .idle → NoReset (1 + pollLength j timedOut) s →
    PollEnds s.params.timeoutMs s.env.lineAt s.env.clockAt j timedOut →
    ∃ t, exec .waitrdy s = .next t ∧ t.ph = .wr ∧ t.upc = 0 ∧ steps (pollLength j timedOut) t = .next { s with
      seq := .none, ph := .idle, upc := 0, t0 := s.env.clockAt 0, tmo := timedOut,
      pads := { s.pads with dataMode := inMode s.pullEn }, done := true,
      env := s.env.after (1 + pollLength j timedOut) (j + 1) (pollReads j timedOut)
        (wirePoll (inMode s.pullEn) j timedOut s.env.clockAt) }

/-- R104, R179: if some clock read of the poll is at or past the deadline, the poll has ended no later than with that
read. -/
def Obligations.PollEndsNoLaterThanTheDeadlineRead : Prop :=
  ∀ (j : Nat) (s : State), s.ph = .idle → NoReset (5 + 2 * j) s →
    s.params.timeoutMs.toNat ≤ (s.env.clockAt (j + 1) - s.env.clockAt 0).toNat →
    ∃ t n u, exec .waitrdy s = .next t ∧ n ≤ 4 + 2 * j ∧ steps n t = .next u ∧ u.ph = .idle ∧ u.done = true

/-- R179: while the line reads 1 and no clock answer reaches the deadline, the poll goes on; no law of the clock
is built in (log 12). -/
def Obligations.PollGoesOnWhileNeitherEndHolds : Prop :=
  ∀ (j : Nat) (s : State), s.ph = .idle → NoReset (3 + 2 * j) s →
    (∀ i, i < j → s.env.lineAt i = true ∧
      (s.env.clockAt (i + 1) - s.env.clockAt 0).toNat < s.params.timeoutMs.toNat) →
    ∃ t u, exec .waitrdy s = .next t ∧ steps (2 + 2 * j) t = .next u ∧ u.ph = .wr ∧ u.upc = 2 ∧ u.tmo = s.tmo

/-- R105, R106: `RDWORD` from every idle state: complete after 56 steps, `RAW` the sixteen samples, first sample bit 15,
with exactly the events of the frame, the pads of R110, and no flag, `LAST_TEMP`, `CODE` or `T0` changed. -/
def Obligations.RdwordReceivesSixteenBits : Prop :=
  ∀ s : State, s.ph = .idle → NoReset 57 s →
    ∃ t, exec .rdword s = .next t ∧ t.ph = .rw ∧ t.upc = 0 ∧ steps 56 t = .next { s with
      seq := .none, ph := .idle, upc := 0, acc := bitsWord 8 fun k => s.env.lineAt (8 + k),
      val := bitsWord 16 s.env.lineAt, raw := bitsWord 16 s.env.lineAt,
      pads := { dataMode := inMode s.pullEn, dataLatch := false, sckMode := .out, sckLatch := false },
      done := true, env := s.env.after 57 16 0 (wireData (inMode s.pullEn) s.env.lineAt) }

/-- R108: `ENDTX` from every idle state: five events, DATA left driven high, nothing but the pads changed. -/
def Obligations.EndtxLeavesDataDrivenHigh : Prop :=
  ∀ s : State, s.ph = .idle → NoReset 6 s →
    ∃ t, exec .endtx s = .next t ∧ t.ph = .et ∧ t.upc = 0 ∧ steps 5 t = .next { s with
      seq := .none, ph := .idle, upc := 0,
      pads := { dataMode := .out, dataLatch := true, sckMode := .out, sckLatch := false },
      done := true, env := s.env.after 6 0 0 wireEnd }

/-- R127: `MEAST` from every idle state, for a poll that ends after `j` whole iterations by either end: one transaction,
its trace the four frames with nothing between, `RAW` and `LAST_TEMP` the same sixteen samples, `LTV` 1, and nothing
else changed. It runs so whatever the acknowledgments are and also after a timeout. -/
def Obligations.MeastRunsOneTransaction : Prop :=
  ∀ (j : Nat) (timedOut : Bool) (s : State), s.ph = .idle → NoReset (1 + (99 + pollLength j timedOut)) s →
    PollEnds s.params.timeoutMs (fun k => s.env.lineAt (2 + k)) s.env.clockAt j timedOut →
    ∃ t, exec .meast s = .next t ∧ t.seq = .temp ∧ t.ph = .sc ∧ t.upc = 0 ∧ t.code = s.params.cmdTemp ∧
      steps (99 + pollLength j timedOut) t = .next { s with
      seq := .none, ph := .idle, upc := 0, code := s.params.cmdTemp,
      acc := bitsWord 8 fun k => s.env.lineAt (3 + j + 8 + k), val := bitsWord 16 fun k => s.env.lineAt (3 + j + k),
      raw := bitsWord 16 fun k => s.env.lineAt (3 + j + k), lastTemp := bitsWord 16 fun k => s.env.lineAt (3 + j + k),
      t0 := s.env.clockAt 0, ack1 := s.env.lineAt 0, ack2 := s.env.lineAt 1, tmo := timedOut, ltv := true,
      pads := padsAfterEnd, done := true,
      env := s.env.after (1 + (99 + pollLength j timedOut)) (3 + j + 16) (pollReads j timedOut)
        (wireCommand s.params.cmdTemp (inMode s.pullEn) (s.env.lineAt 0) (s.env.lineAt 1) ++
          wirePoll (inMode s.pullEn) j timedOut s.env.clockAt ++
          wireData (inMode s.pullEn) (fun k => s.env.lineAt (3 + j + k)) ++ wireEnd) }

/-- R128: `MEASH` likewise with `CMD_HUMI`; `LAST_TEMP` and `LTV` are left as they were. -/
def Obligations.MeashRunsOneTransaction : Prop :=
  ∀ (j : Nat) (timedOut : Bool) (s : State), s.ph = .idle → NoReset (1 + (99 + pollLength j timedOut)) s →
    PollEnds s.params.timeoutMs (fun k => s.env.lineAt (2 + k)) s.env.clockAt j timedOut →
    ∃ t, exec .meash s = .next t ∧ t.seq = .humi ∧ t.ph = .sc ∧ t.upc = 0 ∧ t.code = s.params.cmdHumi ∧
      steps (99 + pollLength j timedOut) t = .next { s with
      seq := .none, ph := .idle, upc := 0, code := s.params.cmdHumi,
      acc := bitsWord 8 fun k => s.env.lineAt (3 + j + 8 + k), val := bitsWord 16 fun k => s.env.lineAt (3 + j + k),
      raw := bitsWord 16 fun k => s.env.lineAt (3 + j + k),
      t0 := s.env.clockAt 0, ack1 := s.env.lineAt 0, ack2 := s.env.lineAt 1, tmo := timedOut,
      pads := padsAfterEnd, done := true,
      env := s.env.after (1 + (99 + pollLength j timedOut)) (3 + j + 16) (pollReads j timedOut)
        (wireCommand s.params.cmdHumi (inMode s.pullEn) (s.env.lineAt 0) (s.env.lineAt 1) ++
          wirePoll (inMode s.pullEn) j timedOut s.env.clockAt ++
          wireData (inMode s.pullEn) (fun k => s.env.lineAt (3 + j + k)) ++ wireEnd) }

/-- R129: MEAST and the four words SENDCMD CMD_TEMP; WAITRDY; RDWORD; ENDTX, under the same answers, end in the same
state and trace, but that the four words leave `LAST_TEMP` and `LTV` and take three more acceptance steps of the host's
schedule; for MEASH there is no difference in registers at all. The spec marks R129 as its own inference. -/
def Obligations.MeasurementEqualsItsFourWords : Prop :=
  ∀ (j : Nat) (timedOut : Bool) (s : State), s.ph = .idle → NoReset (4 + (99 + pollLength j timedOut)) s →
    PollEnds s.params.timeoutMs (fun k => s.env.lineAt (2 + k)) s.env.clockAt j timedOut →
    (∃ m, runProgram [(.meast, 99 + pollLength j timedOut)] s = .next m ∧
      runProgram [(.sendcmd s.params.cmdTemp, 38), (.waitrdy, pollLength j timedOut), (.rdword, 56), (.endtx, 5)] s =
        .next { m with lastTemp := s.lastTemp, ltv := s.ltv, env := m.env.skipHost 3 }) ∧
    ∃ m, runProgram [(.meash, 99 + pollLength j timedOut)] s = .next m ∧
      runProgram [(.sendcmd s.params.cmdHumi, 38), (.waitrdy, pollLength j timedOut), (.rdword, 56), (.endtx, 5)] s =
        .next { m with env := m.env.skipHost 3 }

/-- R72: every measurement, whatever is sampled and however its poll ends, drives SCK high exactly 29 times. The spec
marks R72 as its own inference. -/
def Obligations.MeasurementMakesTwentyNineClockPulses : Prop :=
  ∀ (j : Nat) (timedOut : Bool) (s : State), s.ph = .idle → s.env.trace = [] →
    NoReset (1 + (99 + pollLength j timedOut)) s →
    PollEnds s.params.timeoutMs (fun k => s.env.lineAt (2 + k)) s.env.clockAt j timedOut →
    ∃ t u, runOperation .meast (99 + pollLength j timedOut) s = .next t ∧ t.env.trace.count (evC true) = 29 ∧
      runOperation .meash (99 + pollLength j timedOut) s = .next u ∧ u.env.trace.count (evC true) = 29
end

