-- ==== Sys2Proof/Laws/Decode.lean ====
section
/-! SUPPORT. The three fields of a command word (spec/30_encoding.md R60) and the word they make determine each other;
the parameters of the reset machine are legal (spec/00_scope.md R6). -/

namespace Sys2Proof

/-- Which field a bit of a command word belongs to (R60). -/
theorem getLsbD_fields (z : BitVec 5) (o : BitVec 3) (a : Byte) (i : Nat) :
    BitVec.getLsbD (w := 16) ((z ++ o) ++ a) i =
      if i < 8 then a.getLsbD i else if i < 11 then o.getLsbD (i - 8) else z.getLsbD (i - 11) := by
  change BitVec.getLsbD (w := 5 + 3 + 8) ((z ++ o) ++ a) i = _
  rw [BitVec.getLsbD_append]
  split
  · rfl
  · rw [BitVec.getLsbD_append]
    have : (i - 8 < 3) ↔ i < 11 := by omega
    simp only [this, show i - 8 - 3 = i - 11 by omega]

@[simp] theorem fieldZero_mk (z : BitVec 5) (o : BitVec 3) (a : Byte) : fieldZero ((z ++ o) ++ a) = z := by
  apply BitVec.eq_of_getLsbD_eq
  intro i hi
  rw [fieldZero, BitVec.getLsbD_extractLsb', getLsbD_fields, if_neg (by omega), if_neg (by omega),
    Nat.add_sub_cancel_left, decide_eq_true hi, Bool.true_and]

@[simp] theorem fieldOp_mk (z : BitVec 5) (o : BitVec 3) (a : Byte) : fieldOp ((z ++ o) ++ a) = o := by
  apply BitVec.eq_of_getLsbD_eq
  intro i hi
  rw [fieldOp, BitVec.getLsbD_extractLsb', getLsbD_fields, if_neg (by omega), if_pos (by omega),
    Nat.add_sub_cancel_left, decide_eq_true hi, Bool.true_and]

@[simp] theorem fieldArg_mk (z : BitVec 5) (o : BitVec 3) (a : Byte) : fieldArg ((z ++ o) ++ a) = a := by
  apply BitVec.eq_of_getLsbD_eq
  intro i hi
  rw [fieldArg, BitVec.getLsbD_extractLsb', getLsbD_fields, Nat.zero_add, if_pos hi, decide_eq_true hi, Bool.true_and]

/-- A word is its three fields. -/
theorem word_of_fields (w : Word) : (fieldZero w ++ fieldOp w) ++ fieldArg w = w := by
  apply BitVec.eq_of_getLsbD_eq
  intro i hi
  rw [getLsbD_fields]
  simp only [fieldZero, fieldOp, fieldArg, BitVec.getLsbD_extractLsb']
  split
  · simp [*]
  · split
    · rw [decide_eq_true (by omega), Nat.add_sub_cancel' (by omega), Bool.true_and]
    · rw [decide_eq_true (by omega), Nat.add_sub_cancel' (by omega), Bool.true_and]

/-- R6: the three things asked of the parameters hold of those of the reset machine, whatever they are. -/
theorem Config.params_wf : Config.params.wf = true := by
  have h : ∀ (a : BitVec 5) (g : Fin 31),
      Params.wf ⟨a.zeroExtend 8, (a + BitVec.ofNat 5 (g.val + 1)).zeroExtend 8, 0#32⟩ = true := by decide +kernel
  exact h Config.cmdTempLow Config.cmdHumiGap

end Sys2Proof
end

