-- ==== Sys2Proof/Laws/State.lean ====
section
/-! SUPPORT. One lemma per field per named update of `State`, `Pads` and `Env`, true by rfl: later proofs never unfold an
update. -/

namespace Sys2Proof.Machine

/-! ## `State.tick` -/

@[simp] theorem State.tick_seq (s : State) : (s.tick).seq = s.seq := rfl
@[simp] theorem State.tick_ph (s : State) : (s.tick).ph = s.ph := rfl
@[simp] theorem State.tick_upc (s : State) : (s.tick).upc = s.upc := rfl
@[simp] theorem State.tick_code (s : State) : (s.tick).code = s.code := rfl
@[simp] theorem State.tick_acc (s : State) : (s.tick).acc = s.acc := rfl
@[simp] theorem State.tick_val (s : State) : (s.tick).val = s.val := rfl
@[simp] theorem State.tick_raw (s : State) : (s.tick).raw = s.raw := rfl
@[simp] theorem State.tick_lastTemp (s : State) : (s.tick).lastTemp = s.lastTemp := rfl
@[simp] theorem State.tick_t0 (s : State) : (s.tick).t0 = s.t0 := rfl
@[simp] theorem State.tick_ack1 (s : State) : (s.tick).ack1 = s.ack1 := rfl
@[simp] theorem State.tick_ack2 (s : State) : (s.tick).ack2 = s.ack2 := rfl
@[simp] theorem State.tick_tmo (s : State) : (s.tick).tmo = s.tmo := rfl
@[simp] theorem State.tick_ltv (s : State) : (s.tick).ltv = s.ltv := rfl
@[simp] theorem State.tick_ill (s : State) : (s.tick).ill = s.ill := rfl
@[simp] theorem State.tick_pads (s : State) : (s.tick).pads = s.pads := rfl
@[simp] theorem State.tick_done (s : State) : (s.tick).done = false := rfl
@[simp] theorem State.tick_pullEn (s : State) : (s.tick).pullEn = s.pullEn := rfl
@[simp] theorem State.tick_params (s : State) : (s.tick).params = s.params := rfl
@[simp] theorem State.tick_env (s : State) : (s.tick).env = s.env.skipHost 1 := rfl

/-! ## `State.recordAck1` -/

@[simp] theorem State.recordAck1_seq (b : Level) (s : State) : (s.recordAck1 b).seq = s.seq := rfl
@[simp] theorem State.recordAck1_ph (b : Level) (s : State) : (s.recordAck1 b).ph = s.ph := rfl
@[simp] theorem State.recordAck1_upc (b : Level) (s : State) : (s.recordAck1 b).upc = s.upc := rfl
@[simp] theorem State.recordAck1_code (b : Level) (s : State) : (s.recordAck1 b).code = s.code := rfl
@[simp] theorem State.recordAck1_acc (b : Level) (s : State) : (s.recordAck1 b).acc = s.acc := rfl
@[simp] theorem State.recordAck1_val (b : Level) (s : State) : (s.recordAck1 b).val = s.val := rfl
@[simp] theorem State.recordAck1_raw (b : Level) (s : State) : (s.recordAck1 b).raw = s.raw := rfl
@[simp] theorem State.recordAck1_lastTemp (b : Level) (s : State) : (s.recordAck1 b).lastTemp = s.lastTemp := rfl
@[simp] theorem State.recordAck1_t0 (b : Level) (s : State) : (s.recordAck1 b).t0 = s.t0 := rfl
@[simp] theorem State.recordAck1_ack1 (b : Level) (s : State) : (s.recordAck1 b).ack1 = b := rfl
@[simp] theorem State.recordAck1_ack2 (b : Level) (s : State) : (s.recordAck1 b).ack2 = s.ack2 := rfl
@[simp] theorem State.recordAck1_tmo (b : Level) (s : State) : (s.recordAck1 b).tmo = s.tmo := rfl
@[simp] theorem State.recordAck1_ltv (b : Level) (s : State) : (s.recordAck1 b).ltv = s.ltv := rfl
@[simp] theorem State.recordAck1_ill (b : Level) (s : State) : (s.recordAck1 b).ill = s.ill := rfl
@[simp] theorem State.recordAck1_pads (b : Level) (s : State) : (s.recordAck1 b).pads = s.pads := rfl
@[simp] theorem State.recordAck1_done (b : Level) (s : State) : (s.recordAck1 b).done = s.done := rfl
@[simp] theorem State.recordAck1_pullEn (b : Level) (s : State) : (s.recordAck1 b).pullEn = s.pullEn := rfl
@[simp] theorem State.recordAck1_params (b : Level) (s : State) : (s.recordAck1 b).params = s.params := rfl
@[simp] theorem State.recordAck1_env (b : Level) (s : State) : (s.recordAck1 b).env = s.env := rfl

/-! ## `State.recordAck2` -/

@[simp] theorem State.recordAck2_seq (b : Level) (s : State) : (s.recordAck2 b).seq = s.seq := rfl
@[simp] theorem State.recordAck2_ph (b : Level) (s : State) : (s.recordAck2 b).ph = s.ph := rfl
@[simp] theorem State.recordAck2_upc (b : Level) (s : State) : (s.recordAck2 b).upc = s.upc := rfl
@[simp] theorem State.recordAck2_code (b : Level) (s : State) : (s.recordAck2 b).code = s.code := rfl
@[simp] theorem State.recordAck2_acc (b : Level) (s : State) : (s.recordAck2 b).acc = s.acc := rfl
@[simp] theorem State.recordAck2_val (b : Level) (s : State) : (s.recordAck2 b).val = s.val := rfl
@[simp] theorem State.recordAck2_raw (b : Level) (s : State) : (s.recordAck2 b).raw = s.raw := rfl
@[simp] theorem State.recordAck2_lastTemp (b : Level) (s : State) : (s.recordAck2 b).lastTemp = s.lastTemp := rfl
@[simp] theorem State.recordAck2_t0 (b : Level) (s : State) : (s.recordAck2 b).t0 = s.t0 := rfl
@[simp] theorem State.recordAck2_ack1 (b : Level) (s : State) : (s.recordAck2 b).ack1 = s.ack1 := rfl
@[simp] theorem State.recordAck2_ack2 (b : Level) (s : State) : (s.recordAck2 b).ack2 = b := rfl
@[simp] theorem State.recordAck2_tmo (b : Level) (s : State) : (s.recordAck2 b).tmo = s.tmo := rfl
@[simp] theorem State.recordAck2_ltv (b : Level) (s : State) : (s.recordAck2 b).ltv = s.ltv := rfl
@[simp] theorem State.recordAck2_ill (b : Level) (s : State) : (s.recordAck2 b).ill = s.ill := rfl
@[simp] theorem State.recordAck2_pads (b : Level) (s : State) : (s.recordAck2 b).pads = s.pads := rfl
@[simp] theorem State.recordAck2_done (b : Level) (s : State) : (s.recordAck2 b).done = s.done := rfl
@[simp] theorem State.recordAck2_pullEn (b : Level) (s : State) : (s.recordAck2 b).pullEn = s.pullEn := rfl
@[simp] theorem State.recordAck2_params (b : Level) (s : State) : (s.recordAck2 b).params = s.params := rfl
@[simp] theorem State.recordAck2_env (b : Level) (s : State) : (s.recordAck2 b).env = s.env := rfl

/-! ## `State.recordTimeout` -/

@[simp] theorem State.recordTimeout_seq (b : Bool) (s : State) : (s.recordTimeout b).seq = s.seq := rfl
@[simp] theorem State.recordTimeout_ph (b : Bool) (s : State) : (s.recordTimeout b).ph = s.ph := rfl
@[simp] theorem State.recordTimeout_upc (b : Bool) (s : State) : (s.recordTimeout b).upc = s.upc := rfl
@[simp] theorem State.recordTimeout_code (b : Bool) (s : State) : (s.recordTimeout b).code = s.code := rfl
@[simp] theorem State.recordTimeout_acc (b : Bool) (s : State) : (s.recordTimeout b).acc = s.acc := rfl
@[simp] theorem State.recordTimeout_val (b : Bool) (s : State) : (s.recordTimeout b).val = s.val := rfl
@[simp] theorem State.recordTimeout_raw (b : Bool) (s : State) : (s.recordTimeout b).raw = s.raw := rfl
@[simp] theorem State.recordTimeout_lastTemp (b : Bool) (s : State) : (s.recordTimeout b).lastTemp = s.lastTemp := rfl
@[simp] theorem State.recordTimeout_t0 (b : Bool) (s : State) : (s.recordTimeout b).t0 = s.t0 := rfl
@[simp] theorem State.recordTimeout_ack1 (b : Bool) (s : State) : (s.recordTimeout b).ack1 = s.ack1 := rfl
@[simp] theorem State.recordTimeout_ack2 (b : Bool) (s : State) : (s.recordTimeout b).ack2 = s.ack2 := rfl
@[simp] theorem State.recordTimeout_tmo (b : Bool) (s : State) : (s.recordTimeout b).tmo = b := rfl
@[simp] theorem State.recordTimeout_ltv (b : Bool) (s : State) : (s.recordTimeout b).ltv = s.ltv := rfl
@[simp] theorem State.recordTimeout_ill (b : Bool) (s : State) : (s.recordTimeout b).ill = s.ill := rfl
@[simp] theorem State.recordTimeout_pads (b : Bool) (s : State) : (s.recordTimeout b).pads = s.pads := rfl
@[simp] theorem State.recordTimeout_done (b : Bool) (s : State) : (s.recordTimeout b).done = s.done := rfl
@[simp] theorem State.recordTimeout_pullEn (b : Bool) (s : State) : (s.recordTimeout b).pullEn = s.pullEn := rfl
@[simp] theorem State.recordTimeout_params (b : Bool) (s : State) : (s.recordTimeout b).params = s.params := rfl
@[simp] theorem State.recordTimeout_env (b : Bool) (s : State) : (s.recordTimeout b).env = s.env := rfl

/-! ## `State.recordTemp` -/

@[simp] theorem State.recordTemp_seq (v : Word) (s : State) : (s.recordTemp v).seq = s.seq := rfl
@[simp] theorem State.recordTemp_ph (v : Word) (s : State) : (s.recordTemp v).ph = s.ph := rfl
@[simp] theorem State.recordTemp_upc (v : Word) (s : State) : (s.recordTemp v).upc = s.upc := rfl
@[simp] theorem State.recordTemp_code (v : Word) (s : State) : (s.recordTemp v).code = s.code := rfl
@[simp] theorem State.recordTemp_acc (v : Word) (s : State) : (s.recordTemp v).acc = s.acc := rfl
@[simp] theorem State.recordTemp_val (v : Word) (s : State) : (s.recordTemp v).val = s.val := rfl
@[simp] theorem State.recordTemp_raw (v : Word) (s : State) : (s.recordTemp v).raw = s.raw := rfl
@[simp] theorem State.recordTemp_lastTemp (v : Word) (s : State) : (s.recordTemp v).lastTemp = v := rfl
@[simp] theorem State.recordTemp_t0 (v : Word) (s : State) : (s.recordTemp v).t0 = s.t0 := rfl
@[simp] theorem State.recordTemp_ack1 (v : Word) (s : State) : (s.recordTemp v).ack1 = s.ack1 := rfl
@[simp] theorem State.recordTemp_ack2 (v : Word) (s : State) : (s.recordTemp v).ack2 = s.ack2 := rfl
@[simp] theorem State.recordTemp_tmo (v : Word) (s : State) : (s.recordTemp v).tmo = s.tmo := rfl
@[simp] theorem State.recordTemp_ltv (v : Word) (s : State) : (s.recordTemp v).ltv = true := rfl
@[simp] theorem State.recordTemp_ill (v : Word) (s : State) : (s.recordTemp v).ill = s.ill := rfl
@[simp] theorem State.recordTemp_pads (v : Word) (s : State) : (s.recordTemp v).pads = s.pads := rfl
@[simp] theorem State.recordTemp_done (v : Word) (s : State) : (s.recordTemp v).done = s.done := rfl
@[simp] theorem State.recordTemp_pullEn (v : Word) (s : State) : (s.recordTemp v).pullEn = s.pullEn := rfl
@[simp] theorem State.recordTemp_params (v : Word) (s : State) : (s.recordTemp v).params = s.params := rfl
@[simp] theorem State.recordTemp_env (v : Word) (s : State) : (s.recordTemp v).env = s.env := rfl

/-! ## `State.recordIllegal` -/

@[simp] theorem State.recordIllegal_seq (s : State) : (s.recordIllegal).seq = s.seq := rfl
@[simp] theorem State.recordIllegal_ph (s : State) : (s.recordIllegal).ph = s.ph := rfl
@[simp] theorem State.recordIllegal_upc (s : State) : (s.recordIllegal).upc = s.upc := rfl
@[simp] theorem State.recordIllegal_code (s : State) : (s.recordIllegal).code = s.code := rfl
@[simp] theorem State.recordIllegal_acc (s : State) : (s.recordIllegal).acc = s.acc := rfl
@[simp] theorem State.recordIllegal_val (s : State) : (s.recordIllegal).val = s.val := rfl
@[simp] theorem State.recordIllegal_raw (s : State) : (s.recordIllegal).raw = s.raw := rfl
@[simp] theorem State.recordIllegal_lastTemp (s : State) : (s.recordIllegal).lastTemp = s.lastTemp := rfl
@[simp] theorem State.recordIllegal_t0 (s : State) : (s.recordIllegal).t0 = s.t0 := rfl
@[simp] theorem State.recordIllegal_ack1 (s : State) : (s.recordIllegal).ack1 = s.ack1 := rfl
@[simp] theorem State.recordIllegal_ack2 (s : State) : (s.recordIllegal).ack2 = s.ack2 := rfl
@[simp] theorem State.recordIllegal_tmo (s : State) : (s.recordIllegal).tmo = s.tmo := rfl
@[simp] theorem State.recordIllegal_ltv (s : State) : (s.recordIllegal).ltv = s.ltv := rfl
@[simp] theorem State.recordIllegal_ill (s : State) : (s.recordIllegal).ill = true := rfl
@[simp] theorem State.recordIllegal_pads (s : State) : (s.recordIllegal).pads = s.pads := rfl
@[simp] theorem State.recordIllegal_done (s : State) : (s.recordIllegal).done = s.done := rfl
@[simp] theorem State.recordIllegal_pullEn (s : State) : (s.recordIllegal).pullEn = s.pullEn := rfl
@[simp] theorem State.recordIllegal_params (s : State) : (s.recordIllegal).params = s.params := rfl
@[simp] theorem State.recordIllegal_env (s : State) : (s.recordIllegal).env = s.env := rfl

/-! ## `lineMode` -/

@[simp] theorem lineMode_seq (l : Line) (m : PadMode) (s : State) : (lineMode l m s).seq = s.seq := rfl
@[simp] theorem lineMode_ph (l : Line) (m : PadMode) (s : State) : (lineMode l m s).ph = s.ph := rfl
@[simp] theorem lineMode_upc (l : Line) (m : PadMode) (s : State) : (lineMode l m s).upc = s.upc := rfl
@[simp] theorem lineMode_code (l : Line) (m : PadMode) (s : State) : (lineMode l m s).code = s.code := rfl
@[simp] theorem lineMode_acc (l : Line) (m : PadMode) (s : State) : (lineMode l m s).acc = s.acc := rfl
@[simp] theorem lineMode_val (l : Line) (m : PadMode) (s : State) : (lineMode l m s).val = s.val := rfl
@[simp] theorem lineMode_raw (l : Line) (m : PadMode) (s : State) : (lineMode l m s).raw = s.raw := rfl
@[simp] theorem lineMode_lastTemp (l : Line) (m : PadMode) (s : State) : (lineMode l m s).lastTemp = s.lastTemp := rfl
@[simp] theorem lineMode_t0 (l : Line) (m : PadMode) (s : State) : (lineMode l m s).t0 = s.t0 := rfl
@[simp] theorem lineMode_ack1 (l : Line) (m : PadMode) (s : State) : (lineMode l m s).ack1 = s.ack1 := rfl
@[simp] theorem lineMode_ack2 (l : Line) (m : PadMode) (s : State) : (lineMode l m s).ack2 = s.ack2 := rfl
@[simp] theorem lineMode_tmo (l : Line) (m : PadMode) (s : State) : (lineMode l m s).tmo = s.tmo := rfl
@[simp] theorem lineMode_ltv (l : Line) (m : PadMode) (s : State) : (lineMode l m s).ltv = s.ltv := rfl
@[simp] theorem lineMode_ill (l : Line) (m : PadMode) (s : State) : (lineMode l m s).ill = s.ill := rfl
@[simp] theorem lineMode_pads (l : Line) (m : PadMode) (s : State) : (lineMode l m s).pads = s.pads.setMode l m := rfl
@[simp] theorem lineMode_done (l : Line) (m : PadMode) (s : State) : (lineMode l m s).done = s.done := rfl
@[simp] theorem lineMode_pullEn (l : Line) (m : PadMode) (s : State) : (lineMode l m s).pullEn = s.pullEn := rfl
@[simp] theorem lineMode_params (l : Line) (m : PadMode) (s : State) : (lineMode l m s).params = s.params := rfl
@[simp] theorem lineMode_env (l : Line) (m : PadMode) (s : State) : (lineMode l m s).env = s.env.record (.mode l m) := rfl

/-! ## `lineDrive` -/

@[simp] theorem lineDrive_seq (l : Line) (v : Level) (s : State) : (lineDrive l v s).seq = s.seq := rfl
@[simp] theorem lineDrive_ph (l : Line) (v : Level) (s : State) : (lineDrive l v s).ph = s.ph := rfl
@[simp] theorem lineDrive_upc (l : Line) (v : Level) (s : State) : (lineDrive l v s).upc = s.upc := rfl
@[simp] theorem lineDrive_code (l : Line) (v : Level) (s : State) : (lineDrive l v s).code = s.code := rfl
@[simp] theorem lineDrive_acc (l : Line) (v : Level) (s : State) : (lineDrive l v s).acc = s.acc := rfl
@[simp] theorem lineDrive_val (l : Line) (v : Level) (s : State) : (lineDrive l v s).val = s.val := rfl
@[simp] theorem lineDrive_raw (l : Line) (v : Level) (s : State) : (lineDrive l v s).raw = s.raw := rfl
@[simp] theorem lineDrive_lastTemp (l : Line) (v : Level) (s : State) : (lineDrive l v s).lastTemp = s.lastTemp := rfl
@[simp] theorem lineDrive_t0 (l : Line) (v : Level) (s : State) : (lineDrive l v s).t0 = s.t0 := rfl
@[simp] theorem lineDrive_ack1 (l : Line) (v : Level) (s : State) : (lineDrive l v s).ack1 = s.ack1 := rfl
@[simp] theorem lineDrive_ack2 (l : Line) (v : Level) (s : State) : (lineDrive l v s).ack2 = s.ack2 := rfl
@[simp] theorem lineDrive_tmo (l : Line) (v : Level) (s : State) : (lineDrive l v s).tmo = s.tmo := rfl
@[simp] theorem lineDrive_ltv (l : Line) (v : Level) (s : State) : (lineDrive l v s).ltv = s.ltv := rfl
@[simp] theorem lineDrive_ill (l : Line) (v : Level) (s : State) : (lineDrive l v s).ill = s.ill := rfl
@[simp] theorem lineDrive_pads (l : Line) (v : Level) (s : State) : (lineDrive l v s).pads = s.pads.setLatch l v := rfl
@[simp] theorem lineDrive_done (l : Line) (v : Level) (s : State) : (lineDrive l v s).done = s.done := rfl
@[simp] theorem lineDrive_pullEn (l : Line) (v : Level) (s : State) : (lineDrive l v s).pullEn = s.pullEn := rfl
@[simp] theorem lineDrive_params (l : Line) (v : Level) (s : State) : (lineDrive l v s).params = s.params := rfl
@[simp] theorem lineDrive_env (l : Line) (v : Level) (s : State) : (lineDrive l v s).env = s.env.record (.drive l v) := rfl

/-! ## `lineSample` -/

@[simp] theorem lineSample_seq (s : State) : (lineSample s).seq = s.seq := rfl
@[simp] theorem lineSample_ph (s : State) : (lineSample s).ph = s.ph := rfl
@[simp] theorem lineSample_upc (s : State) : (lineSample s).upc = s.upc := rfl
@[simp] theorem lineSample_code (s : State) : (lineSample s).code = s.code := rfl
@[simp] theorem lineSample_acc (s : State) : (lineSample s).acc = s.acc := rfl
@[simp] theorem lineSample_val (s : State) : (lineSample s).val = s.val := rfl
@[simp] theorem lineSample_raw (s : State) : (lineSample s).raw = s.raw := rfl
@[simp] theorem lineSample_lastTemp (s : State) : (lineSample s).lastTemp = s.lastTemp := rfl
@[simp] theorem lineSample_t0 (s : State) : (lineSample s).t0 = s.t0 := rfl
@[simp] theorem lineSample_ack1 (s : State) : (lineSample s).ack1 = s.ack1 := rfl
@[simp] theorem lineSample_ack2 (s : State) : (lineSample s).ack2 = s.ack2 := rfl
@[simp] theorem lineSample_tmo (s : State) : (lineSample s).tmo = s.tmo := rfl
@[simp] theorem lineSample_ltv (s : State) : (lineSample s).ltv = s.ltv := rfl
@[simp] theorem lineSample_ill (s : State) : (lineSample s).ill = s.ill := rfl
@[simp] theorem lineSample_pads (s : State) : (lineSample s).pads = s.pads := rfl
@[simp] theorem lineSample_done (s : State) : (lineSample s).done = s.done := rfl
@[simp] theorem lineSample_pullEn (s : State) : (lineSample s).pullEn = s.pullEn := rfl
@[simp] theorem lineSample_params (s : State) : (lineSample s).params = s.params := rfl
@[simp] theorem lineSample_env (s : State) : (lineSample s).env = (s.env.skipLine 1).record (.sample (s.env.lineAt 0)) := rfl

/-! ## `readClock` -/

@[simp] theorem readClock_seq (s : State) : (readClock s).seq = s.seq := rfl
@[simp] theorem readClock_ph (s : State) : (readClock s).ph = s.ph := rfl
@[simp] theorem readClock_upc (s : State) : (readClock s).upc = s.upc := rfl
@[simp] theorem readClock_code (s : State) : (readClock s).code = s.code := rfl
@[simp] theorem readClock_acc (s : State) : (readClock s).acc = s.acc := rfl
@[simp] theorem readClock_val (s : State) : (readClock s).val = s.val := rfl
@[simp] theorem readClock_raw (s : State) : (readClock s).raw = s.raw := rfl
@[simp] theorem readClock_lastTemp (s : State) : (readClock s).lastTemp = s.lastTemp := rfl
@[simp] theorem readClock_t0 (s : State) : (readClock s).t0 = s.t0 := rfl
@[simp] theorem readClock_ack1 (s : State) : (readClock s).ack1 = s.ack1 := rfl
@[simp] theorem readClock_ack2 (s : State) : (readClock s).ack2 = s.ack2 := rfl
@[simp] theorem readClock_tmo (s : State) : (readClock s).tmo = s.tmo := rfl
@[simp] theorem readClock_ltv (s : State) : (readClock s).ltv = s.ltv := rfl
@[simp] theorem readClock_ill (s : State) : (readClock s).ill = s.ill := rfl
@[simp] theorem readClock_pads (s : State) : (readClock s).pads = s.pads := rfl
@[simp] theorem readClock_done (s : State) : (readClock s).done = s.done := rfl
@[simp] theorem readClock_pullEn (s : State) : (readClock s).pullEn = s.pullEn := rfl
@[simp] theorem readClock_params (s : State) : (readClock s).params = s.params := rfl
@[simp] theorem readClock_env (s : State) : (readClock s).env = (s.env.skipClock 1).record (.clock (s.env.clockAt 0)) := rfl

/-! ## `accept` -/

@[simp] theorem accept_seq (q : Seq) (p : Phase) (c : Byte) (s : State) : (accept q p c s).seq = q := rfl
@[simp] theorem accept_ph (q : Seq) (p : Phase) (c : Byte) (s : State) : (accept q p c s).ph = p := rfl
@[simp] theorem accept_upc (q : Seq) (p : Phase) (c : Byte) (s : State) : (accept q p c s).upc = 0 := rfl
@[simp] theorem accept_code (q : Seq) (p : Phase) (c : Byte) (s : State) : (accept q p c s).code = c := rfl
@[simp] theorem accept_acc (q : Seq) (p : Phase) (c : Byte) (s : State) : (accept q p c s).acc = s.acc := rfl
@[simp] theorem accept_val (q : Seq) (p : Phase) (c : Byte) (s : State) : (accept q p c s).val = s.val := rfl
@[simp] theorem accept_raw (q : Seq) (p : Phase) (c : Byte) (s : State) : (accept q p c s).raw = s.raw := rfl
@[simp] theorem accept_lastTemp (q : Seq) (p : Phase) (c : Byte) (s : State) : (accept q p c s).lastTemp = s.lastTemp := rfl
@[simp] theorem accept_t0 (q : Seq) (p : Phase) (c : Byte) (s : State) : (accept q p c s).t0 = s.t0 := rfl
@[simp] theorem accept_ack1 (q : Seq) (p : Phase) (c : Byte) (s : State) : (accept q p c s).ack1 = s.ack1 := rfl
@[simp] theorem accept_ack2 (q : Seq) (p : Phase) (c : Byte) (s : State) : (accept q p c s).ack2 = s.ack2 := rfl
@[simp] theorem accept_tmo (q : Seq) (p : Phase) (c : Byte) (s : State) : (accept q p c s).tmo = s.tmo := rfl
@[simp] theorem accept_ltv (q : Seq) (p : Phase) (c : Byte) (s : State) : (accept q p c s).ltv = s.ltv := rfl
@[simp] theorem accept_ill (q : Seq) (p : Phase) (c : Byte) (s : State) : (accept q p c s).ill = s.ill := rfl
@[simp] theorem accept_pads (q : Seq) (p : Phase) (c : Byte) (s : State) : (accept q p c s).pads = s.pads := rfl
@[simp] theorem accept_done (q : Seq) (p : Phase) (c : Byte) (s : State) : (accept q p c s).done = false := rfl
@[simp] theorem accept_pullEn (q : Seq) (p : Phase) (c : Byte) (s : State) : (accept q p c s).pullEn = s.pullEn := rfl
@[simp] theorem accept_params (q : Seq) (p : Phase) (c : Byte) (s : State) : (accept q p c s).params = s.params := rfl
@[simp] theorem accept_env (q : Seq) (p : Phase) (c : Byte) (s : State) : (accept q p c s).env = s.env.skipHost 1 := rfl

/-! ## `acceptIllegal` -/

@[simp] theorem acceptIllegal_seq (s : State) : (acceptIllegal s).seq = s.seq := rfl
@[simp] theorem acceptIllegal_ph (s : State) : (acceptIllegal s).ph = s.ph := rfl
@[simp] theorem acceptIllegal_upc (s : State) : (acceptIllegal s).upc = s.upc := rfl
@[simp] theorem acceptIllegal_code (s : State) : (acceptIllegal s).code = s.code := rfl
@[simp] theorem acceptIllegal_acc (s : State) : (acceptIllegal s).acc = s.acc := rfl
@[simp] theorem acceptIllegal_val (s : State) : (acceptIllegal s).val = s.val := rfl
@[simp] theorem acceptIllegal_raw (s : State) : (acceptIllegal s).raw = s.raw := rfl
@[simp] theorem acceptIllegal_lastTemp (s : State) : (acceptIllegal s).lastTemp = s.lastTemp := rfl
@[simp] theorem acceptIllegal_t0 (s : State) : (acceptIllegal s).t0 = s.t0 := rfl
@[simp] theorem acceptIllegal_ack1 (s : State) : (acceptIllegal s).ack1 = s.ack1 := rfl
@[simp] theorem acceptIllegal_ack2 (s : State) : (acceptIllegal s).ack2 = s.ack2 := rfl
@[simp] theorem acceptIllegal_tmo (s : State) : (acceptIllegal s).tmo = s.tmo := rfl
@[simp] theorem acceptIllegal_ltv (s : State) : (acceptIllegal s).ltv = s.ltv := rfl
@[simp] theorem acceptIllegal_ill (s : State) : (acceptIllegal s).ill = true := rfl
@[simp] theorem acceptIllegal_pads (s : State) : (acceptIllegal s).pads = s.pads := rfl
@[simp] theorem acceptIllegal_done (s : State) : (acceptIllegal s).done = true := rfl
@[simp] theorem acceptIllegal_pullEn (s : State) : (acceptIllegal s).pullEn = s.pullEn := rfl
@[simp] theorem acceptIllegal_params (s : State) : (acceptIllegal s).params = s.params := rfl
@[simp] theorem acceptIllegal_env (s : State) : (acceptIllegal s).env = s.env.skipHost 1 := rfl

/-! ## `completeOperation` -/

@[simp] theorem completeOperation_seq (s : State) : (completeOperation s).seq = .none := rfl
@[simp] theorem completeOperation_ph (s : State) : (completeOperation s).ph = .idle := rfl
@[simp] theorem completeOperation_upc (s : State) : (completeOperation s).upc = 0 := rfl
@[simp] theorem completeOperation_code (s : State) : (completeOperation s).code = s.code := rfl
@[simp] theorem completeOperation_acc (s : State) : (completeOperation s).acc = s.acc := rfl
@[simp] theorem completeOperation_val (s : State) : (completeOperation s).val = s.val := rfl
@[simp] theorem completeOperation_raw (s : State) : (completeOperation s).raw = s.raw := rfl
@[simp] theorem completeOperation_lastTemp (s : State) : (completeOperation s).lastTemp = s.lastTemp := rfl
@[simp] theorem completeOperation_t0 (s : State) : (completeOperation s).t0 = s.t0 := rfl
@[simp] theorem completeOperation_ack1 (s : State) : (completeOperation s).ack1 = s.ack1 := rfl
@[simp] theorem completeOperation_ack2 (s : State) : (completeOperation s).ack2 = s.ack2 := rfl
@[simp] theorem completeOperation_tmo (s : State) : (completeOperation s).tmo = s.tmo := rfl
@[simp] theorem completeOperation_ltv (s : State) : (completeOperation s).ltv = s.ltv := rfl
@[simp] theorem completeOperation_ill (s : State) : (completeOperation s).ill = s.ill := rfl
@[simp] theorem completeOperation_pads (s : State) : (completeOperation s).pads = s.pads := rfl
@[simp] theorem completeOperation_done (s : State) : (completeOperation s).done = true := rfl
@[simp] theorem completeOperation_pullEn (s : State) : (completeOperation s).pullEn = s.pullEn := rfl
@[simp] theorem completeOperation_params (s : State) : (completeOperation s).params = s.params := rfl
@[simp] theorem completeOperation_env (s : State) : (completeOperation s).env = s.env := rfl

/-! ## `enterPhase` -/

@[simp] theorem enterPhase_seq (p : Phase) (s : State) : (enterPhase p s).seq = s.seq := rfl
@[simp] theorem enterPhase_ph (p : Phase) (s : State) : (enterPhase p s).ph = p := rfl
@[simp] theorem enterPhase_upc (p : Phase) (s : State) : (enterPhase p s).upc = 0 := rfl
@[simp] theorem enterPhase_code (p : Phase) (s : State) : (enterPhase p s).code = s.code := rfl
@[simp] theorem enterPhase_acc (p : Phase) (s : State) : (enterPhase p s).acc = s.acc := rfl
@[simp] theorem enterPhase_val (p : Phase) (s : State) : (enterPhase p s).val = s.val := rfl
@[simp] theorem enterPhase_raw (p : Phase) (s : State) : (enterPhase p s).raw = s.raw := rfl
@[simp] theorem enterPhase_lastTemp (p : Phase) (s : State) : (enterPhase p s).lastTemp = s.lastTemp := rfl
@[simp] theorem enterPhase_t0 (p : Phase) (s : State) : (enterPhase p s).t0 = s.t0 := rfl
@[simp] theorem enterPhase_ack1 (p : Phase) (s : State) : (enterPhase p s).ack1 = s.ack1 := rfl
@[simp] theorem enterPhase_ack2 (p : Phase) (s : State) : (enterPhase p s).ack2 = s.ack2 := rfl
@[simp] theorem enterPhase_tmo (p : Phase) (s : State) : (enterPhase p s).tmo = s.tmo := rfl
@[simp] theorem enterPhase_ltv (p : Phase) (s : State) : (enterPhase p s).ltv = s.ltv := rfl
@[simp] theorem enterPhase_ill (p : Phase) (s : State) : (enterPhase p s).ill = s.ill := rfl
@[simp] theorem enterPhase_pads (p : Phase) (s : State) : (enterPhase p s).pads = s.pads := rfl
@[simp] theorem enterPhase_done (p : Phase) (s : State) : (enterPhase p s).done = s.done := rfl
@[simp] theorem enterPhase_pullEn (p : Phase) (s : State) : (enterPhase p s).pullEn = s.pullEn := rfl
@[simp] theorem enterPhase_params (p : Phase) (s : State) : (enterPhase p s).params = s.params := rfl
@[simp] theorem enterPhase_env (p : Phase) (s : State) : (enterPhase p s).env = s.env := rfl

/-! ## `resetEngine` -/

@[simp] theorem resetEngine_seq (s : State) : (resetEngine s).seq = State.reset.seq := rfl
@[simp] theorem resetEngine_ph (s : State) : (resetEngine s).ph = State.reset.ph := rfl
@[simp] theorem resetEngine_upc (s : State) : (resetEngine s).upc = State.reset.upc := rfl
@[simp] theorem resetEngine_code (s : State) : (resetEngine s).code = State.reset.code := rfl
@[simp] theorem resetEngine_acc (s : State) : (resetEngine s).acc = State.reset.acc := rfl
@[simp] theorem resetEngine_val (s : State) : (resetEngine s).val = State.reset.val := rfl
@[simp] theorem resetEngine_raw (s : State) : (resetEngine s).raw = State.reset.raw := rfl
@[simp] theorem resetEngine_lastTemp (s : State) : (resetEngine s).lastTemp = State.reset.lastTemp := rfl
@[simp] theorem resetEngine_t0 (s : State) : (resetEngine s).t0 = State.reset.t0 := rfl
@[simp] theorem resetEngine_ack1 (s : State) : (resetEngine s).ack1 = State.reset.ack1 := rfl
@[simp] theorem resetEngine_ack2 (s : State) : (resetEngine s).ack2 = State.reset.ack2 := rfl
@[simp] theorem resetEngine_tmo (s : State) : (resetEngine s).tmo = State.reset.tmo := rfl
@[simp] theorem resetEngine_ltv (s : State) : (resetEngine s).ltv = State.reset.ltv := rfl
@[simp] theorem resetEngine_ill (s : State) : (resetEngine s).ill = State.reset.ill := rfl
@[simp] theorem resetEngine_pads (s : State) : (resetEngine s).pads = State.reset.pads := rfl
@[simp] theorem resetEngine_done (s : State) : (resetEngine s).done = State.reset.done := rfl
@[simp] theorem resetEngine_pullEn (s : State) : (resetEngine s).pullEn = s.pullEn := rfl
@[simp] theorem resetEngine_params (s : State) : (resetEngine s).params = s.params := rfl
@[simp] theorem resetEngine_env (s : State) : (resetEngine s).env = s.env.skipHost 1 := rfl

/-! ## `Pads` -/

@[simp] theorem Pads.setMode_data_dataMode (m : PadMode) (p : Pads) : (p.setMode .data m).dataMode = m := rfl
@[simp] theorem Pads.setMode_data_dataLatch (m : PadMode) (p : Pads) : (p.setMode .data m).dataLatch = p.dataLatch := rfl
@[simp] theorem Pads.setMode_data_sckMode (m : PadMode) (p : Pads) : (p.setMode .data m).sckMode = p.sckMode := rfl
@[simp] theorem Pads.setMode_data_sckLatch (m : PadMode) (p : Pads) : (p.setMode .data m).sckLatch = p.sckLatch := rfl
@[simp] theorem Pads.setMode_sck_dataMode (m : PadMode) (p : Pads) : (p.setMode .sck m).dataMode = p.dataMode := rfl
@[simp] theorem Pads.setMode_sck_dataLatch (m : PadMode) (p : Pads) : (p.setMode .sck m).dataLatch = p.dataLatch := rfl
@[simp] theorem Pads.setMode_sck_sckMode (m : PadMode) (p : Pads) : (p.setMode .sck m).sckMode = m := rfl
@[simp] theorem Pads.setMode_sck_sckLatch (m : PadMode) (p : Pads) : (p.setMode .sck m).sckLatch = p.sckLatch := rfl
@[simp] theorem Pads.setLatch_data_dataMode (v : Level) (p : Pads) : (p.setLatch .data v).dataMode = p.dataMode := rfl
@[simp] theorem Pads.setLatch_data_dataLatch (v : Level) (p : Pads) : (p.setLatch .data v).dataLatch = v := rfl
@[simp] theorem Pads.setLatch_data_sckMode (v : Level) (p : Pads) : (p.setLatch .data v).sckMode = p.sckMode := rfl
@[simp] theorem Pads.setLatch_data_sckLatch (v : Level) (p : Pads) : (p.setLatch .data v).sckLatch = p.sckLatch := rfl
@[simp] theorem Pads.setLatch_sck_dataMode (v : Level) (p : Pads) : (p.setLatch .sck v).dataMode = p.dataMode := rfl
@[simp] theorem Pads.setLatch_sck_dataLatch (v : Level) (p : Pads) : (p.setLatch .sck v).dataLatch = p.dataLatch := rfl
@[simp] theorem Pads.setLatch_sck_sckMode (v : Level) (p : Pads) : (p.setLatch .sck v).sckMode = p.sckMode := rfl
@[simp] theorem Pads.setLatch_sck_sckLatch (v : Level) (p : Pads) : (p.setLatch .sck v).sckLatch = v := rfl

/-! ## `Env` -/

@[simp] theorem Env.skipHost_host (n : Nat) (e : Env) : (e.skipHost n).host = e.host.drop n := rfl
@[simp] theorem Env.skipHost_lineAnswers (n : Nat) (e : Env) : (e.skipHost n).lineAnswers = e.lineAnswers := rfl
@[simp] theorem Env.skipHost_clockAnswers (n : Nat) (e : Env) : (e.skipHost n).clockAnswers = e.clockAnswers := rfl
@[simp] theorem Env.skipHost_lineDraws (n : Nat) (e : Env) : (e.skipHost n).lineDraws = e.lineDraws := rfl
@[simp] theorem Env.skipHost_clockDraws (n : Nat) (e : Env) : (e.skipHost n).clockDraws = e.clockDraws := rfl
@[simp] theorem Env.skipHost_trace (n : Nat) (e : Env) : (e.skipHost n).trace = e.trace := rfl

@[simp] theorem Env.skipLine_host (n : Nat) (e : Env) : (e.skipLine n).host = e.host := rfl
@[simp] theorem Env.skipLine_lineAnswers (n : Nat) (e : Env) : (e.skipLine n).lineAnswers = e.lineAnswers.drop n := rfl
@[simp] theorem Env.skipLine_clockAnswers (n : Nat) (e : Env) : (e.skipLine n).clockAnswers = e.clockAnswers := rfl
@[simp] theorem Env.skipLine_lineDraws (n : Nat) (e : Env) : (e.skipLine n).lineDraws = e.lineDraws + (n - e.lineAnswers.length) := rfl
@[simp] theorem Env.skipLine_clockDraws (n : Nat) (e : Env) : (e.skipLine n).clockDraws = e.clockDraws := rfl
@[simp] theorem Env.skipLine_trace (n : Nat) (e : Env) : (e.skipLine n).trace = e.trace := rfl

@[simp] theorem Env.skipClock_host (n : Nat) (e : Env) : (e.skipClock n).host = e.host := rfl
@[simp] theorem Env.skipClock_lineAnswers (n : Nat) (e : Env) : (e.skipClock n).lineAnswers = e.lineAnswers := rfl
@[simp] theorem Env.skipClock_clockAnswers (n : Nat) (e : Env) : (e.skipClock n).clockAnswers = e.clockAnswers.drop n := rfl
@[simp] theorem Env.skipClock_lineDraws (n : Nat) (e : Env) : (e.skipClock n).lineDraws = e.lineDraws := rfl
@[simp] theorem Env.skipClock_clockDraws (n : Nat) (e : Env) : (e.skipClock n).clockDraws = e.clockDraws + (n - e.clockAnswers.length) := rfl
@[simp] theorem Env.skipClock_trace (n : Nat) (e : Env) : (e.skipClock n).trace = e.trace := rfl

@[simp] theorem Env.record_host (ev : Event) (e : Env) : (e.record ev).host = e.host := rfl
@[simp] theorem Env.record_lineAnswers (ev : Event) (e : Env) : (e.record ev).lineAnswers = e.lineAnswers := rfl
@[simp] theorem Env.record_clockAnswers (ev : Event) (e : Env) : (e.record ev).clockAnswers = e.clockAnswers := rfl
@[simp] theorem Env.record_lineDraws (ev : Event) (e : Env) : (e.record ev).lineDraws = e.lineDraws := rfl
@[simp] theorem Env.record_clockDraws (ev : Event) (e : Env) : (e.record ev).clockDraws = e.clockDraws := rfl
@[simp] theorem Env.record_trace (ev : Event) (e : Env) : (e.record ev).trace = e.trace ++ [ev] := rfl

@[simp] theorem Env.after_host (h l c : Nat) (evs : List Event) (e : Env) : (e.after h l c evs).host = e.host.drop h := rfl
@[simp] theorem Env.after_lineAnswers (h l c : Nat) (evs : List Event) (e : Env) : (e.after h l c evs).lineAnswers = e.lineAnswers.drop l := rfl
@[simp] theorem Env.after_clockAnswers (h l c : Nat) (evs : List Event) (e : Env) : (e.after h l c evs).clockAnswers = e.clockAnswers.drop c := rfl
@[simp] theorem Env.after_lineDraws (h l c : Nat) (evs : List Event) (e : Env) : (e.after h l c evs).lineDraws = e.lineDraws + (l - e.lineAnswers.length) := rfl
@[simp] theorem Env.after_clockDraws (h l c : Nat) (evs : List Event) (e : Env) : (e.after h l c evs).clockDraws = e.clockDraws + (c - e.clockAnswers.length) := rfl
@[simp] theorem Env.after_trace (h l c : Nat) (evs : List Event) (e : Env) : (e.after h l c evs).trace = e.trace ++ evs := rfl

end Sys2Proof.Machine
end

