-- ==== Sys2Proof/Laws/Env.lean ====
section
/-! SUPPORT. The environment's answers after some of them have been used: what is read later is what stood further on
(spec/20_memory.md R46, R48). -/

namespace Sys2Proof.Machine

theorem Env.getD_drop_free {α : Type} (l : List α) (free : Nat → α) (d n k : Nat) :
    (l.drop n).getD k (free (d + (n - l.length) + (k - (l.drop n).length))) =
      l.getD (n + k) (free (d + (n + k - l.length))) := by
  rw [List.getD_eq_getElem?_getD, List.getD_eq_getElem?_getD, List.getElem?_drop]
  cases h : l[n + k]? with
  | some x => rfl
  | none =>
    have hl : l.length ≤ n + k := List.getElem?_eq_none_iff.mp h
    have : d + (n - l.length) + (k - (l.drop n).length) = d + (n + k - l.length) := by
      rw [List.length_drop]; omega
    rw [this]

@[simp] theorem Env.lineAt_skipLine (n k : Nat) (e : Env) : (e.skipLine n).lineAt k = e.lineAt (n + k) :=
  Env.getD_drop_free e.lineAnswers Config.lineAnswer e.lineDraws n k

@[simp] theorem Env.clockAt_skipClock (n k : Nat) (e : Env) : (e.skipClock n).clockAt k = e.clockAt (n + k) :=
  Env.getD_drop_free e.clockAnswers Config.clockAnswer e.clockDraws n k

@[simp] theorem Env.hostAt_skipHost (n k : Nat) (e : Env) : (e.skipHost n).hostAt k = e.hostAt (n + k) := by
  simp [Env.hostAt, Env.skipHost, List.getD_eq_getElem?_getD, List.getElem?_drop]

@[simp] theorem Env.lineAt_skipClock (n k : Nat) (e : Env) : (e.skipClock n).lineAt k = e.lineAt k := rfl
@[simp] theorem Env.lineAt_skipHost (n k : Nat) (e : Env) : (e.skipHost n).lineAt k = e.lineAt k := rfl
@[simp] theorem Env.lineAt_record (ev : Event) (k : Nat) (e : Env) : (e.record ev).lineAt k = e.lineAt k := rfl
@[simp] theorem Env.clockAt_skipLine (n k : Nat) (e : Env) : (e.skipLine n).clockAt k = e.clockAt k := rfl
@[simp] theorem Env.clockAt_skipHost (n k : Nat) (e : Env) : (e.skipHost n).clockAt k = e.clockAt k := rfl
@[simp] theorem Env.clockAt_record (ev : Event) (k : Nat) (e : Env) : (e.record ev).clockAt k = e.clockAt k := rfl
@[simp] theorem Env.hostAt_skipLine (n k : Nat) (e : Env) : (e.skipLine n).hostAt k = e.hostAt k := rfl
@[simp] theorem Env.hostAt_skipClock (n k : Nat) (e : Env) : (e.skipClock n).hostAt k = e.hostAt k := rfl
@[simp] theorem Env.hostAt_record (ev : Event) (k : Nat) (e : Env) : (e.record ev).hostAt k = e.hostAt k := rfl

@[simp] theorem Env.lineAt_after (h l c : Nat) (evs : List Event) (k : Nat) (e : Env) :
    (e.after h l c evs).lineAt k = e.lineAt (l + k) :=
  Env.lineAt_skipLine l k e

@[simp] theorem Env.clockAt_after (h l c : Nat) (evs : List Event) (k : Nat) (e : Env) :
    (e.after h l c evs).clockAt k = e.clockAt (c + k) :=
  Env.clockAt_skipClock c k e

@[simp] theorem Env.hostAt_after (h l c : Nat) (evs : List Event) (k : Nat) (e : Env) :
    (e.after h l c evs).hostAt k = e.hostAt (h + k) :=
  Env.hostAt_skipHost h k e

theorem Env.lineAt_after_fun (h l c : Nat) (evs : List Event) (e : Env) :
    (e.after h l c evs).lineAt = fun k => e.lineAt (l + k) :=
  funext fun _ => Env.lineAt_after ..

theorem Env.clockAt_after_fun (h l c : Nat) (evs : List Event) (e : Env) :
    (e.after h l c evs).clockAt = fun k => e.clockAt (c + k) :=
  funext fun _ => Env.clockAt_after ..

/-- Two stretches of a run one after the other. -/
theorem Env.after_after (h l c h' l' c' : Nat) (evs evs' : List Event) (e : Env) :
    (e.after h l c evs).after h' l' c' evs' = e.after (h + h') (l + l') (c + c') (evs ++ evs') := by
  simp only [Env.after, Env.skipHost, Env.skipLine, Env.skipClock, List.drop_drop, List.length_drop,
    List.append_assoc, Env.mk.injEq, true_and, and_true]
  omega

theorem Env.after_nothing (e : Env) : e.after 0 0 0 [] = e := by
  simp [Env.after, Env.skipHost, Env.skipLine, Env.skipClock]

theorem Env.skipHost_eq_after (n : Nat) (e : Env) : e.skipHost n = e.after n 0 0 [] := by
  simp [Env.after, Env.skipHost, Env.skipLine, Env.skipClock]

theorem Env.skipLine_eq_after (n : Nat) (e : Env) : e.skipLine n = e.after 0 n 0 [] := by
  simp [Env.after, Env.skipHost, Env.skipLine, Env.skipClock]

theorem Env.skipClock_eq_after (n : Nat) (e : Env) : e.skipClock n = e.after 0 0 n [] := by
  simp [Env.after, Env.skipHost, Env.skipLine, Env.skipClock]

theorem Env.record_eq_after (ev : Event) (e : Env) : e.record ev = e.after 0 0 0 [ev] := by
  simp [Env.after, Env.record, Env.skipHost, Env.skipLine, Env.skipClock]

end Sys2Proof.Machine
end

