-- ==== Sys2Proof/Laws/Ops.lean ====
section
/-! SUPPORT. For each shared operation, once, all it can do: the register writes, a micro-program line, the end of a
phase, the move of the position. Later proofs cite these instead of unfolding the operation. -/

namespace Sys2Proof.Machine

/-! ## The writes beside a line (R105, R22, R102) -/

/-- R105: RW step 55 writes `VAL`, `RAW`, and inside MEAST `LAST_TEMP` and `LTV`, all with the same word. -/
theorem finishWord_eq (s : State) :
    finishWord s = { s with
      val := combine s.val s.acc, raw := combine s.val s.acc,
      lastTemp := if s.seq = .temp then combine s.val s.acc else s.lastTemp,
      ltv := if s.seq = .temp then true else s.ltv } := by
  unfold finishWord
  cases h : s.seq <;> simp [State.recordTemp]

/-- All that a write beside a mode change or a drive does (R105). -/
theorem RegWrite.apply_eq (w : RegWrite) (s : State) :
    w.apply s = { s with
      acc := if w = .clearAcc then 0x0000#16 else s.acc,
      val := if w = .latchHigh then highByte s.acc else if w = .finishWord then combine s.val s.acc else s.val,
      raw := if w = .finishWord then combine s.val s.acc else s.raw,
      lastTemp := if w = .finishWord ∧ s.seq = .temp then combine s.val s.acc else s.lastTemp,
      ltv := if w = .finishWord ∧ s.seq = .temp then true else s.ltv } := by
  cases w with
  | nothing => rfl
  | clearAcc => rfl
  | latchHigh => rfl
  | finishWord => simp [RegWrite.apply, finishWord_eq]

/-- All that a sample does with its answer (R22, R102, R105). -/
theorem SampleUse.apply_eq (u : SampleUse) (b : Level) (s : State) :
    u.apply b s = { s with
      acc := if u = .shift then accumulate s.acc b else s.acc,
      ack1 := if u = .ack1 then b else s.ack1, ack2 := if u = .ack2 then b else s.ack2,
      tmo := if u = .poll ∧ b = false then false else s.tmo } := by
  cases u with
  | ack1 => rfl
  | ack2 => rfl
  | poll => cases b <;> rfl
  | shift => rfl

/-- All that a clock read does with its answer (R102). -/
theorem ClockUse.apply_eq (u : ClockUse) (c : Clk) (s : State) :
    u.apply c s = { s with
      t0 := if u = .start then c else s.t0,
      tmo := if u = .deadline ∧ deadlinePassed s.params.timeoutMs s.t0 c = true then true else s.tmo } := by
  cases u with
  | start => rfl
  | deadline =>
    by_cases h : deadlinePassed s.params.timeoutMs s.t0 c = true <;> simp [ClockUse.apply, State.recordTimeout, h]

theorem deadlinePassed_iff (timeout t0 t : Clk) :
    deadlinePassed timeout t0 t = true ↔ timeout.toNat ≤ (t - t0).toNat :=
  decide_eq_true_iff

theorem deadlinePassed_eq_false (timeout t0 t : Clk) :
    deadlinePassed timeout t0 t = false ↔ (t - t0).toNat < timeout.toNat :=
  decide_eq_false_iff_not.trans Nat.not_le

/-- The registers a write beside a mode change or a drive may change. -/
theorem RegWrite.apply_frame (w : RegWrite) (s : State) :
    w.apply s = { s with
      acc := (w.apply s).acc, val := (w.apply s).val, raw := (w.apply s).raw,
      lastTemp := (w.apply s).lastTemp, ltv := (w.apply s).ltv } := by
  rw [RegWrite.apply_eq]

/-- The registers a sample may change. -/
theorem SampleUse.apply_frame (u : SampleUse) (b : Level) (s : State) :
    u.apply b s = { s with
      acc := (u.apply b s).acc, ack1 := (u.apply b s).ack1, ack2 := (u.apply b s).ack2, tmo := (u.apply b s).tmo } := by
  rw [SampleUse.apply_eq]

/-- The registers a clock read may change. -/
theorem ClockUse.apply_frame (u : ClockUse) (c : Clk) (s : State) :
    u.apply c s = { s with t0 := (u.apply c s).t0, tmo := (u.apply c s).tmo } := by
  rw [ClockUse.apply_eq]

/-! ## A line (R84) -/

/-- Everything a line can do. -/
theorem lineEffect_cases {l : MicroLine} {s t : State} (h : lineEffect l s = .next t) :
    (∃ ln m w, l = .mode ln m w ∧ t = w.apply (lineMode ln m s)) ∨
    (∃ ln v w, l = .drive ln v w ∧ t = w.apply (lineDrive ln v s)) ∨
    (∃ u, l = .sample u ∧ s.pads.dataMode ≠ .out ∧ t = u.apply (s.env.lineAt 0) (lineSample s)) ∨
    (∃ u, l = .now u ∧ t = u.apply (s.env.clockAt 0) (readClock s)) := by
  cases l with
  | mode ln m w => exact .inl ⟨ln, m, w, rfl, by simpa [lineEffect] using h.symm⟩
  | drive ln v w => exact .inr (.inl ⟨ln, v, w, rfl, by simpa [lineEffect] using h.symm⟩)
  | sample u =>
    by_cases hd : s.pads.dataMode = .out
    · simp [lineEffect, hd] at h
    · exact .inr (.inr (.inl ⟨u, rfl, hd, by simpa [lineEffect, hd] using h.symm⟩))
  | now u => exact .inr (.inr (.inr ⟨u, rfl, by simpa [lineEffect] using h.symm⟩))

/-- A line never refuses. -/
theorem lineEffect_not_refused (l : MicroLine) (s : State) (r : Refusal) : lineEffect l s ≠ .refused r := by
  cases l with
  | mode ln m w => simp [lineEffect]
  | drive ln v w => simp [lineEffect]
  | sample u => simp only [lineEffect]; split <;> simp
  | now u => simp [lineEffect]

/-- What a line leaves unchanged: the position, `CODE`, `ILL`, `done`, the strap, the parameters. -/
theorem lineEffect_frame {l : MicroLine} {s t : State} (h : lineEffect l s = .next t) :
    t.seq = s.seq ∧ t.ph = s.ph ∧ t.upc = s.upc ∧ t.code = s.code ∧ t.ill = s.ill ∧ t.done = s.done ∧
      t.pullEn = s.pullEn ∧ t.params = s.params := by
  obtain ⟨ln, m, w, -, rfl⟩ | ⟨ln, v, w, -, rfl⟩ | ⟨u, -, -, rfl⟩ | ⟨u, -, rfl⟩ := lineEffect_cases h
  · rw [RegWrite.apply_frame]; simp
  · rw [RegWrite.apply_frame]; simp
  · rw [SampleUse.apply_frame]; simp
  · rw [ClockUse.apply_frame]; simp

/-- A line appends one event (R84). -/
theorem lineEffect_trace {l : MicroLine} {s t : State} (h : lineEffect l s = .next t) :
    ∃ e, t.env.trace = s.env.trace ++ [e] := by
  obtain ⟨ln, m, w, -, rfl⟩ | ⟨ln, v, w, -, rfl⟩ | ⟨u, -, -, rfl⟩ | ⟨u, -, rfl⟩ := lineEffect_cases h
  · rw [RegWrite.apply_frame]; exact ⟨_, rfl⟩
  · rw [RegWrite.apply_frame]; exact ⟨_, rfl⟩
  · rw [SampleUse.apply_frame]; exact ⟨_, rfl⟩
  · rw [ClockUse.apply_frame]; exact ⟨_, rfl⟩

/-! ## The end of a phase and the move of the position (R18, R124) -/

/-- R124, the whole table at once. -/
theorem endPhase_eq (s : State) :
    endPhase s =
      if nextPhase s.seq s.ph = .idle then completeOperation s else enterPhase (nextPhase s.seq s.ph) s := by
  unfold endPhase
  cases s.seq <;> cases s.ph <;> rfl

/-- The end of a phase moves the position and may complete; it changes nothing else. -/
theorem endPhase_frame (s : State) :
    endPhase s = { s with
      seq := (endPhase s).seq, ph := (endPhase s).ph, upc := 0, done := (endPhase s).done } := by
  rw [endPhase_eq]; split <;> rfl

/-- A move of the position changes nothing but the position and `done`. -/
theorem movePosition_frame (f : Flow) (s : State) :
    movePosition f s = { s with
      seq := (movePosition f s).seq, ph := (movePosition f s).ph, upc := (movePosition f s).upc,
      done := (movePosition f s).done } := by
  cases f with
  | advance =>
    simp only [movePosition]
    split
    · rw [endPhase_eq]; split <;> rfl
    · rfl
  | goto n => rfl
  | finish => simp only [movePosition]; rw [endPhase_eq]; split <;> rfl

theorem movePosition_advance {s : State} (h : s.upc + 1 ≠ s.program.length) :
    movePosition .advance s = { s with upc := s.upc + 1 } :=
  if_neg h

theorem movePosition_last {s : State} (h : s.upc + 1 = s.program.length) : movePosition .advance s = endPhase s :=
  if_pos h

theorem lineFlow_poll_ready {s : State} (h : s.env.lineAt 0 = false) : lineFlow (.sample .poll) s = .finish := by
  simp [lineFlow, isReady, h]

theorem lineFlow_poll_waiting {s : State} (h : s.env.lineAt 0 = true) : lineFlow (.sample .poll) s = .advance := by
  simp [lineFlow, isReady, h]

theorem lineFlow_deadline_passed {s : State} (h : s.params.timeoutMs.toNat ≤ (s.env.clockAt 0 - s.t0).toNat) :
    lineFlow (.now .deadline) s = .finish :=
  if_pos ((deadlinePassed_iff ..).mpr h)

theorem lineFlow_deadline_ahead {s : State} (h : (s.env.clockAt 0 - s.t0).toNat < s.params.timeoutMs.toNat) :
    lineFlow (.now .deadline) s = .goto 2 :=
  if_neg (by rw [(deadlinePassed_eq_false ..).mpr h]; exact Bool.false_ne_true)

/-- Where a move of the position leads. -/
theorem movePosition_cases (f : Flow) (s : State) :
    (f = .advance ∧ s.upc + 1 ≠ s.program.length ∧ movePosition f s = { s with upc := s.upc + 1 }) ∨
    (∃ n, f = .goto n ∧ movePosition f s = { s with upc := n }) ∨
    ((f = .finish ∨ f = .advance ∧ s.upc + 1 = s.program.length) ∧ movePosition f s = endPhase s) := by
  cases f with
  | advance => by_cases h : s.upc + 1 = s.program.length <;> simp [movePosition, h]
  | goto n => exact .inr (.inl ⟨n, rfl, rfl⟩)
  | finish => exact .inr (.inr ⟨.inl rfl, rfl⟩)

end Sys2Proof.Machine
end

