-- ==== Sys2Proof/Laws/PerInstr.lean ====
section
/-! SUPPORT. The families of statements made per instruction (LAWS.json). `EncodeMatchesTable`: the encoding of each
instruction has, field by field, what its row of spec/30_encoding.md R62 shows. -/

namespace Sys2Proof.Laws

/-- The row's `op` (R62). -/
def EncodeMatchesTable.rowOp : Instr → Nat
  | .sendcmd _ => 1
  | .waitrdy => 2
  | .rdword => 3
  | .endtx => 4
  | .meast => 5
  | .meash => 6

/-- The row's `arg` (R62). -/
def EncodeMatchesTable.rowArg : Instr → Byte
  | .sendcmd c => c
  | .waitrdy => 0x00#8
  | .rdword => 0x00#8
  | .endtx => 0x00#8
  | .meast => 0x00#8
  | .meash => 0x00#8

/-- R60, R62, R64: the fields `zero`, `op` and `arg` of the encoding. -/
def EncodeMatchesTable.Statement (i : Instr) : Prop :=
  fieldZero (encode i) = 0#5 ∧ (fieldOp (encode i)).toNat = EncodeMatchesTable.rowOp i ∧
    fieldArg (encode i) = EncodeMatchesTable.rowArg i

theorem EncodeMatchesTable.sendcmd (c : Byte) : EncodeMatchesTable.Statement (.sendcmd c) :=
  ⟨fieldZero_mk _ _ _, congrArg BitVec.toNat (fieldOp_mk _ _ _), fieldArg_mk _ _ _⟩

theorem EncodeMatchesTable.waitrdy : EncodeMatchesTable.Statement .waitrdy := ⟨rfl, rfl, rfl⟩

theorem EncodeMatchesTable.rdword : EncodeMatchesTable.Statement .rdword := ⟨rfl, rfl, rfl⟩

theorem EncodeMatchesTable.endtx : EncodeMatchesTable.Statement .endtx := ⟨rfl, rfl, rfl⟩

theorem EncodeMatchesTable.meast : EncodeMatchesTable.Statement .meast := ⟨rfl, rfl, rfl⟩

theorem EncodeMatchesTable.meash : EncodeMatchesTable.Statement .meash := ⟨rfl, rfl, rfl⟩

end Sys2Proof.Laws
end

