-- ==== Sys2Proof/Laws/Step.lean ====
section
/-! SUPPORT. Everything one step can do (R84, R120, R126, R145), once: the reset step, the running step, the acceptance
step and the idle step; and the run of several steps cut in two. -/

namespace Sys2Proof.Machine

@[simp] theorem State.busy_eq_true (s : State) : s.busy = true ↔ s.ph ≠ .idle := by simp [State.busy]

@[simp] theorem State.busy_eq_false (s : State) : s.busy = false ↔ s.ph = .idle := by simp [State.busy]

/-- Everything a step of a running operation can do (R84). -/
theorem microStep_cases {s t : State} (h : microStep s = .next t) :
    ∃ l u, s.currentLine = some l ∧ lineEffect l s.tick = .next u ∧ t = movePosition (lineFlow l s) u := by
  unfold microStep at h
  cases hl : s.currentLine with
  | none => simp [hl] at h
  | some l =>
    cases hu : lineEffect l s.tick with
    | next u => exact ⟨l, u, rfl, hu, by simpa [hl, hu] using h.symm⟩
    | fault r => simp [hl, hu] at h
    | refused r => simp [hl, hu] at h

theorem microStep_next {s u : State} {l : MicroLine} (hl : s.currentLine = some l)
    (hu : lineEffect l s.tick = .next u) : microStep s = .next (movePosition (lineFlow l s) u) := by
  simp [microStep, hl, hu]

theorem present_idle {start : State → State} {s : State} (h : s.ph = .idle) : present start s = .next (start s) := by
  simp [present, State.busy, h]

theorem present_busy {start : State → State} {s : State} (h : s.ph ≠ .idle) : present start s = microStep s := by
  simp [present, State.busy, h]

/-- A busy engine runs its own micro-operation whatever instruction is presented (R126). -/
theorem exec_busy (i : Instr) {s : State} (h : s.ph ≠ .idle) : exec i s = microStep s := by
  cases i <;> exact present_busy h

/-- What `SEQ` is after the acceptance (R121). -/
def acceptedSeq : Instr → Seq
  | .meast => .temp
  | .meash => .humi
  | .sendcmd _ => .none
  | .waitrdy => .none
  | .rdword => .none
  | .endtx => .none

/-- The phase an instruction is accepted into (R121). -/
def acceptedPhase : Instr → Phase
  | .sendcmd _ => .sc
  | .waitrdy => .wr
  | .rdword => .rw
  | .endtx => .et
  | .meast => .sc
  | .meash => .sc

/-- What `CODE` is after the acceptance (R121). -/
def acceptedCode (i : Instr) (s : State) : Byte :=
  match i with
  | .sendcmd c => c
  | .waitrdy => s.code
  | .rdword => s.code
  | .endtx => s.code
  | .meast => s.params.cmdTemp
  | .meash => s.params.cmdHumi

/-- An idle engine accepts (R121). -/
theorem exec_idle (i : Instr) {s : State} (h : s.ph = .idle) :
    exec i s = .next (accept (acceptedSeq i) (acceptedPhase i) (acceptedCode i s) s) := by
  cases i <;> exact present_idle h

theorem acceptedPhase_ne_idle (i : Instr) : acceptedPhase i ≠ .idle := by
  cases i <;> simp [acceptedPhase]

theorem step_reset {s : State} (h : (s.env.hostAt 0).rst = true) : step s = .next (resetEngine s) := by
  simp [step, engineStep, h]

theorem step_busy {s : State} (hr : (s.env.hostAt 0).rst = false) (hb : s.ph ≠ .idle) : step s = microStep s := by
  simp [step, engineStep, hr, State.busy, hb]

theorem step_present {s : State} (hr : (s.env.hostAt 0).rst = false) (hb : s.ph = .idle)
    (hv : (s.env.hostAt 0).cmdValid = true) : step s = presentWord (s.env.hostAt 0).cmdWord s := by
  simp [step, engineStep, hr, State.busy, hb, hv]

theorem step_quiet {s : State} (hr : (s.env.hostAt 0).rst = false) (hb : s.ph = .idle)
    (hv : (s.env.hostAt 0).cmdValid = false) : step s = .next s.tick := by
  simp [step, engineStep, hr, State.busy, hb, hv]

/-- Everything a step can do (R145). -/
theorem step_cases {s t : State} (h : step s = .next t) :
    ((s.env.hostAt 0).rst = true ∧ t = resetEngine s) ∨
    ((s.env.hostAt 0).rst = false ∧ s.ph ≠ .idle ∧ microStep s = .next t) ∨
    ((s.env.hostAt 0).rst = false ∧ s.ph = .idle ∧ (s.env.hostAt 0).cmdValid = true ∧
      ((∃ i, decode (s.env.hostAt 0).cmdWord = .ok i ∧
          t = accept (acceptedSeq i) (acceptedPhase i) (acceptedCode i s) s) ∨
        ((∃ e, decode (s.env.hostAt 0).cmdWord = .error e) ∧ t = acceptIllegal s))) ∨
    ((s.env.hostAt 0).rst = false ∧ s.ph = .idle ∧ (s.env.hostAt 0).cmdValid = false ∧ t = s.tick) := by
  cases hr : (s.env.hostAt 0).rst with
  | true => rw [step_reset hr] at h; exact .inl ⟨rfl, by simpa using h.symm⟩
  | false =>
    by_cases hb : s.ph = .idle
    · cases hv : (s.env.hostAt 0).cmdValid with
      | true =>
        refine .inr (.inr (.inl ⟨rfl, hb, rfl, ?_⟩))
        rw [step_present hr hb hv] at h
        cases hd : decode (s.env.hostAt 0).cmdWord with
        | ok i =>
          refine .inl ⟨i, rfl, ?_⟩
          simp only [presentWord, hd, exec_idle i hb, Host.Outcome.next.injEq] at h
          exact h.symm
        | error e =>
          refine .inr ⟨⟨e, rfl⟩, ?_⟩
          simp only [presentWord, hd, present_idle hb, Host.Outcome.next.injEq] at h
          exact h.symm
      | false => rw [step_quiet hr hb hv] at h; exact .inr (.inr (.inr ⟨rfl, hb, rfl, by simpa using h.symm⟩))
    · exact .inr (.inl ⟨rfl, hb, by rwa [step_busy hr hb] at h⟩)

theorem steps_zero (s : State) : steps 0 s = .next s := rfl

theorem steps_succ_of_step {n : Nat} {s t : State} (h : step s = .next t) : steps (n + 1) s = steps n t := by
  simp [steps, h]

/-- A run of `m + n` steps is a run of `m` and then one of `n`. -/
theorem steps_add_of_steps {m n : Nat} {s t : State} (h : steps m s = .next t) : steps (m + n) s = steps n t := by
  induction m generalizing s with
  | zero => simp only [steps, Host.Outcome.next.injEq] at h; subst h; rw [Nat.zero_add]
  | succ m ih =>
    rw [Nat.add_right_comm]
    simp only [steps] at h ⊢
    cases hs : step s with
    | next u => simp only [hs] at h ⊢; exact ih h
    | fault r => simp [hs] at h
    | refused r => simp [hs] at h

end Sys2Proof.Machine
end

