-- ==== Sys2Proof/Laws/Programs.lean ====
section
/-! SUPPORT. The micro-programs read off once: their lengths (R111), and a check of every line against the positions at
which the pads are driven, released or high (R29), so that no later proof walks through the lines again. -/

namespace Sys2Proof.Machine

@[simp] theorem scProgram_length (c : Byte) (im : PadMode) : (scProgram c im).length = 38 := rfl
@[simp] theorem wrProgram_length (im : PadMode) : (wrProgram im).length = 4 := rfl
@[simp] theorem rwProgram_length (im : PadMode) : (rwProgram im).length = 56 := rfl
@[simp] theorem etProgram_length : etProgram.length = 5 := rfl

@[simp] theorem inMode_ne_out (b : Bool) : inMode b ≠ .out := by cases b <;> simp [inMode]

theorem program_length {s : State} (h : s.ph ≠ .idle) : s.program.length = phaseLength s.ph := by
  unfold State.program
  cases hp : s.ph with
  | idle => contradiction
  | sc => rfl
  | wr => rfl
  | rw => rfl
  | et => rfl

/-- A line drives only a driven line and samples only a released one. -/
def lineFits (ph : Phase) (u : Nat) (l : MicroLine) : Bool :=
  match l with
  | .mode _ _ _ => true
  | .drive .data _ _ => dataOutAt ph u
  | .drive .sck _ _ => sckOutAt ph u
  | .sample _ => dataInAt ph u
  | .now _ => true

/-- After a line the pads are as the next position needs them. -/
def positionFollows (im : PadMode) (ph : Phase) (u : Nat) (l : MicroLine) : Bool :=
  (!dataOutAt ph (u + 1) || match l with | .mode .data m _ => m == .out | _ => dataOutAt ph u) &&
  (!dataInAt ph (u + 1) || match l with | .mode .data m _ => m == im | _ => dataInAt ph u) &&
  (!sckOutAt ph (u + 1) || match l with | .mode .sck m _ => m == .out | _ => sckOutAt ph u) &&
  (sckHighAt ph (u + 1) == match l with | .drive .sck v _ => v | _ => sckHighAt ph u) &&
  (match l with | .mode .sck m _ => m == .out | _ => true)

/-- A line that writes the assembled word (R105). -/
def finishesWord (l : MicroLine) : Bool :=
  match l with
  | .mode _ _ w => w == .finishWord
  | .drive _ _ w => w == .finishWord
  | .sample _ => false
  | .now _ => false

/-- The lines with a use of their own stand at the positions the tables of R100, R102 and R105 give them. -/
def usesStand (ph : Phase) (u : Nat) (l : MicroLine) : Bool :=
  ((match l with | .sample .ack1 => true | _ => false) == (ph == .sc && u == 35)) &&
  ((match l with | .sample .ack2 => true | _ => false) == (ph == .sc && u == 37)) &&
  ((match l with | .sample .poll => true | _ => false) == (ph == .wr && u == 2)) &&
  ((match l with | .now .start => true | _ => false) == (ph == .wr && u == 1)) &&
  ((match l with | .now .deadline => true | _ => false) == (ph == .wr && u == 3)) &&
  (finishesWord l == (ph == .rw && u == 55))

/-- The checks on a whole program. -/
def programFits (im : PadMode) (ph : Phase) (ls : List MicroLine) : Bool :=
  ls.zipIdx.all fun p => lineFits ph p.2 p.1 && positionFollows im ph p.2 p.1 && usesStand ph p.2 p.1

theorem scProgram_fits (c : Byte) (b : Bool) : programFits (inMode b) .sc (scProgram c (inMode b)) = true := by
  cases b <;>
    simp [programFits, scProgram, bothOut, startSeq, shiftOut8, shiftOutBit, pulseSck, ackRead, lineFits,
      positionFollows, dataOutAt, dataInAt, sckOutAt, sckHighAt, usesStand, finishesWord, inMode]

theorem wrProgram_fits (b : Bool) : programFits (inMode b) .wr (wrProgram (inMode b)) = true := by cases b <;> rfl

theorem rwProgram_fits (b : Bool) : programFits (inMode b) .rw (rwProgram (inMode b)) = true := by cases b <;> rfl

theorem etProgram_fits (b : Bool) : programFits (inMode b) .et etProgram = true := by cases b <;> rfl

theorem programFits_line {im : PadMode} {ph : Phase} {ls : List MicroLine} {u : Nat} {l : MicroLine}
    (h : programFits im ph ls = true) (hl : ls[u]? = some l) :
    lineFits ph u l = true ∧ positionFollows im ph u l = true ∧ usesStand ph u l = true := by
  have hm : (l, u) ∈ ls.zipIdx := List.mem_zipIdx_iff_getElem?.mpr hl
  have := List.all_eq_true.mp h _ hm
  simpa [and_assoc] using this

/-- The checks hold of the line any state stands at. -/
theorem currentLine_fits {s : State} {l : MicroLine} (hl : s.currentLine = some l) :
    lineFits s.ph s.upc l = true ∧ positionFollows (inMode s.pullEn) s.ph s.upc l = true ∧
      usesStand s.ph s.upc l = true := by
  unfold State.currentLine State.program at hl
  cases hp : s.ph <;> simp only [hp] at hl
  · simp at hl
  · exact programFits_line (scProgram_fits _ _) hl
  · exact programFits_line (wrProgram_fits _) hl
  · exact programFits_line (rwProgram_fits _) hl
  · exact programFits_line (etProgram_fits _) hl

/-- Every position of a running phase has a line (R18). -/
theorem currentLine_exists {s : State} (hb : s.ph ≠ .idle) (hu : s.upc < phaseLength s.ph) :
    ∃ l, s.currentLine = some l :=
  ⟨_, List.getElem?_eq_getElem (by rw [program_length hb]; exact hu)⟩

/-- The pads after a line. -/
theorem lineEffect_pads {l : MicroLine} {s t : State} (h : lineEffect l s = .next t) :
    (∀ ln m w, l = .mode ln m w → t.pads = s.pads.setMode ln m) ∧
    (∀ ln v w, l = .drive ln v w → t.pads = s.pads.setLatch ln v) ∧
    (∀ u, l = .sample u → t.pads = s.pads) ∧ (∀ u, l = .now u → t.pads = s.pads) := by
  obtain ⟨ln, m, w, rfl, rfl⟩ | ⟨ln, v, w, rfl, rfl⟩ | ⟨u, rfl, -, rfl⟩ | ⟨u, rfl, rfl⟩ := lineEffect_cases h
  · rw [RegWrite.apply_frame]; simp +contextual
  · rw [RegWrite.apply_frame]; simp +contextual
  · rw [SampleUse.apply_frame]; simp
  · rw [ClockUse.apply_frame]; simp

end Sys2Proof.Machine
end

