-- ==== Sys2Proof/Laws/Values.lean ====
section
/-! SUPPORT. The value of a row of sampled bits (spec/40_line_primitives.md R89, spec/10_state.md R17), and lists of
micro-program lines run one after the other. -/

namespace Sys2Proof.Machine

/-- One more bit, at the low end. -/
theorem bitsValue_succ (b : Nat → Level) (n : Nat) : bitsValue (n + 1) b = 2 * bitsValue n b + (b n).toNat := by
  simp only [bitsValue, List.range_succ, List.map_append, List.sum_append]
  simp only [Nat.add_sub_cancel, List.map_cons, List.map_nil, List.sum_singleton, Nat.sub_self, Nat.pow_zero,
    Nat.mul_one, ← List.sum_map_mul_left, Nat.add_right_cancel_iff]
  congr 1
  apply List.map_congr_left
  intro i hi
  have : i < n := by simpa using hi
  rw [show n - i = (n - 1 - i) + 1 by omega, Nat.pow_succ]; ring

theorem bitsValue_lt (b : Nat → Level) (n : Nat) : bitsValue n b < 2 ^ n := by
  induction n with
  | zero => simp [bitsValue]
  | succ n ih => rw [bitsValue_succ]; have := Bool.toNat_le (b n); rw [Nat.pow_succ]; omega

theorem bitsValue_append (b : Nat → Level) (m n : Nat) :
    bitsValue (m + n) b = bitsValue m b * 2 ^ n + bitsValue n (fun k => b (m + k)) := by
  induction n with
  | zero => simp [bitsValue]
  | succ n ih => rw [← Nat.add_assoc, bitsValue_succ, ih, bitsValue_succ, Nat.pow_succ]; ring

theorem accumulate_ofNat (v : Nat) (b : Level) :
    accumulate (BitVec.ofNat 16 v) b = BitVec.ofNat 16 (2 * v + b.toNat) := by
  apply BitVec.eq_of_toNat_eq
  cases b <;> simp [accumulate, bitWord] <;> omega

/-- One round of the shift-in on a word of bits (R89). -/
theorem accumulate_bitsWord (b : Nat → Level) (n : Nat) : accumulate (bitsWord n b) (b n) = bitsWord (n + 1) b := by
  rw [bitsWord, accumulate_ofNat, bitsWord, bitsValue_succ]

/-- The two received bytes make the sixteen-bit word (R17, RW step 55). -/
theorem combine_bitsWord (b : Nat → Level) :
    combine (highByte (bitsWord 8 b)) (bitsWord 8 fun k => b (8 + k)) = bitsWord 16 b := by
  have h1 := bitsValue_lt b 8
  have h2 := bitsValue_lt (fun k => b (8 + k)) 8
  have h3 := bitsValue_append b 8 8
  apply BitVec.eq_of_toNat_eq
  simp only [combine, highByte, bitsWord, BitVec.toNat_or, BitVec.toNat_mul, BitVec.toNat_ofNat]
  rw [h3]
  have : (bitsValue 8 b % 2 ^ 16 * (256 % 2 ^ 16)) % 2 ^ 16 = bitsValue 8 b <<< 8 := by
    rw [Nat.shiftLeft_eq]; omega
  rw [this, Nat.mod_eq_of_lt (a := bitsValue 8 fun k => b (8 + k)) (by omega), ← Nat.shiftLeft_add_eq_or_of_lt h2,
    Nat.shiftLeft_eq]
  omega

/-- Two lists of lines one after the other. -/
theorem runLines_append (l₁ l₂ : List MicroLine) {s t : State} (h : runLines l₁ s = .next t) :
    runLines (l₁ ++ l₂) s = runLines l₂ t := by
  induction l₁ generalizing s with
  | nil => obtain rfl := Host.Outcome.next.inj h; rfl
  | cons l r ih =>
    simp only [List.cons_append, runLines] at h ⊢
    cases hl : lineEffect l s with
    | next u => rw [hl] at h; exact ih h
    | fault e => rw [hl] at h; contradiction
    | refused e => rw [hl] at h; contradiction

end Sys2Proof.Machine
end

