-- ==== Sys2Proof/Tests/Slice0.lean ====
section
/-! SUPPORT. Small tests with results taken from spec/ (the rule or the vector of spec/95_test_vectors.md is named at
each), and for every obligation with hypotheses a witness that meets all of them. -/

namespace Sys2Proof.Tests

open Sys2Proof.Machine

/-! ## Well-formedness: each check refuses its ill-formed term (R6) -/

theorem test_wf_accepts_legal : Params.wf ⟨0x03#8, 0x05#8, 3#32⟩ = true := by decide
theorem test_wf_refuses_temp_prefix : Params.tempPrefixOk ⟨0x23#8, 0x05#8, 320#32⟩ = false := by decide
theorem test_wf_refuses_humi_prefix : Params.humiPrefixOk ⟨0x03#8, 0x85#8, 320#32⟩ = false := by decide
theorem test_wf_refuses_equal_codes : Params.distinctOk ⟨0x03#8, 0x03#8, 320#32⟩ = false := by decide
theorem test_wf_needs_all_three : Params.wf ⟨0x03#8, 0x03#8, 320#32⟩ = false := by decide

/-! ## Decoding: words written out from the table of R62, and the illegal words T50 to T53 -/

theorem test_decode_sendcmd : decode 0b0000000110100101#16 = .ok (.sendcmd 0xA5#8) := by decide
theorem test_decode_sendcmd_ff : decode 0b0000000111111111#16 = .ok (.sendcmd 0xFF#8) := by decide
theorem test_decode_waitrdy : decode 0b0000001000000000#16 = .ok .waitrdy := by decide
theorem test_decode_rdword : decode 0b0000001100000000#16 = .ok .rdword := by decide
theorem test_decode_endtx : decode 0b0000010000000000#16 = .ok .endtx := by decide
theorem test_decode_meast : decode 0b0000010100000000#16 = .ok .meast := by decide
theorem test_decode_meash : decode 0b0000011000000000#16 = .ok .meash := by decide
theorem test_decode_all_zero : decode 0x0000#16 = .error .opZero := by decide
theorem test_decode_op_seven : decode 0x0700#16 = .error .opSeven := by decide
theorem test_decode_waitrdy_arg : decode 0x0201#16 = .error .argNotZero := by decide
theorem test_decode_zero_field : decode 0x0801#16 = .error .zeroFieldSet := by decide
theorem test_decode_top_bit : decode 0x8100#16 = .error .zeroFieldSet := by decide
theorem test_encode_sendcmd : encode (.sendcmd 0xA5#8) = 0x01A5#16 := by decide
theorem test_decodeTableWord_sendcmd : decodeTableWord 16 0x0103 = some (.sendcmd 0x03#8) := by decide

/-! ## States for the tests -/

/-- The reset state with the parameters `CMD_TEMP` 0x03, `CMD_HUMI` 0x05, `TIMEOUT_MS` 3 and the listed answers. -/
def machine (line : List Level) (clock : List Clk) : State :=
  { State.reset with
    params := ⟨0x03#8, 0x05#8, 3#32⟩
    env := { Env.empty with lineAnswers := line, clockAnswers := clock } }

/-- That machine with the host's next pins. -/
def hosted (pins : HostPins) : State := { machine [] [] with env := { Env.empty with host := [pins] } }

/-- In the middle of a phase, DATA released as the phase needs it there, SCK driven. -/
def running (q : Seq) (p : Phase) (u : Nat) (sckLevel : Level) (line : List Level) (clock : List Clk) : State :=
  { machine line clock with
    seq := q, ph := p, upc := u, code := 0xA5#8, acc := 0x0072#16, val := 0x1800#16
    pads := { dataMode := .plainIn, dataLatch := false, sckMode := .out, sckLatch := sckLevel } }

/-- In the middle of a phase at a position where DATA is driven. -/
def driving (p : Phase) (u : Nat) (sckLevel : Level) : State :=
  { running .none p u sckLevel [] [] with
    pads := { dataMode := .out, dataLatch := false, sckMode := .out, sckLatch := sckLevel } }

/-- One field of a next state. -/
def field {α : Type} (f : State → α) (r : Result) : Option α :=
  match r with
  | .next t => some (f t)
  | .fault _ => none
  | .refused _ => none

/-! ## One step of each operation -/

/-- R121: acceptance; T20's word. -/
theorem test_sendcmd_accepted :
    field (fun t => (t.seq, t.ph, t.upc, t.code, t.done)) (step ((machine [] []).withFetchWord 16 0x0103)) =
      some (.none, .sc, 0, 0x03#8, false) := by decide

/-- R87, R100: SC step 12 drives `CODE[6]`, which is 0 in 0xA5 (T24). -/
theorem test_sendcmd_second_bit :
    field (fun t => (t.upc, t.env.trace)) (step (driving .sc 12 false)) = some (13, [.drive .data false]) := by decide

/-- R102, R103: elapsed 3 ≥ 3 ends the poll with `TMO` = 1, across the clock's wrap (T15). -/
theorem test_waitrdy_deadline :
    field (fun t => (t.ph, t.tmo, t.done))
      (step { running .none .wr 3 false [] [1#32] with t0 := 0xFFFFFFFE#32 }) = some (.idle, true, true) := by decide

/-- R102: elapsed 2 < 3 goes back to step 2 (T15). -/
theorem test_waitrdy_goes_back :
    field (fun t => (t.ph, t.upc, t.tmo))
      (step { running .none .wr 3 false [] [0#32] with t0 := 0xFFFFFFFE#32 }) = some (.wr, 2, false) := by decide

/-- R105: the assembled word of T36, the last sample already in `ACC`. -/
theorem test_rdword_assembles :
    field (fun t => (t.raw, t.lastTemp, t.ph, t.done)) (step (running .none .rw 55 true [] [])) =
      some (0x1872#16, 0x0000#16, .idle, true) := by decide

/-- R89, R105: a sample of 1 doubles `ACC` and adds 1. -/
theorem test_rdword_shifts :
    field (fun t => (t.acc, t.upc)) (step (running .none .rw 3 true [true] [])) = some (0x00E5#16, 4) := by decide

/-- R108, T40: the last step leaves DATA driven high and SCK low. -/
theorem test_endtx_last_step :
    field (fun t => (t.ph, t.pads)) (step { driving .et 4 true with
      pads := { dataMode := .out, dataLatch := true, sckMode := .out, sckLatch := true } }) =
      some (.idle, padsAfterEnd) := by decide

/-- R124, R127: inside MEAST the end of the receive writes both words and `LTV`, and ET follows. -/
theorem test_meast_caches :
    field (fun t => (t.raw, t.lastTemp, t.ltv, t.ph, t.seq)) (step (running .temp .rw 55 true [] [])) =
      some (0x1872#16, 0x1872#16, true, .et, .temp) := by decide

/-- R121: `CODE` takes `CMD_TEMP`. -/
theorem test_meast_accepted :
    field (fun t => (t.seq, t.ph, t.code)) (step ((machine [] []).withFetchWord 16 0x0500)) =
      some (.temp, .sc, 0x03#8) := by decide

/-- R128: inside MEASH `LAST_TEMP` and `LTV` are left. -/
theorem test_meash_does_not_cache :
    field (fun t => (t.raw, t.lastTemp, t.ltv, t.ph)) (step (running .humi .rw 55 true [] [])) =
      some (0x1872#16, 0x0000#16, false, .et) := by decide

/-- R121: `CODE` takes `CMD_HUMI`. -/
theorem test_meash_accepted :
    field (fun t => (t.seq, t.ph, t.code)) (step ((machine [] []).withFetchWord 16 0x0600)) =
      some (.humi, .sc, 0x05#8) := by decide

/-- R130, T52: an illegal word. -/
theorem test_illegal_word :
    field (fun t => (t.status, t.done, t.ph)) (step ((machine [] []).withFetchWord 16 0x0201)) =
      some (0x20#8, true, .idle) := by decide

/-- R161, T58: reset at RW step 30 of a MEAST. -/
theorem test_reset_ends_operation :
    field (fun t => (t.ph, t.seq, t.raw, t.done, t.pads))
      (step { running .temp .rw 30 true [] [] with raw := 0x1872#16, env := (hosted ⟨true, true, 0x0300#16⟩).env }) =
      some (.idle, .none, 0x0000#16, false, Pads.reset) := by decide

/-- R126, T56: RDWORD presented at SC step 12 is not accepted. -/
theorem test_busy_ignores_word :
    field (fun t => (t.ph, t.upc)) (step { driving .sc 12 false with env := (hosted ⟨false, true, 0x0300#16⟩).env }) =
      some (.sc, 13) := by decide

/-- R89, T2: eight samples, first sample highest. -/
theorem test_shiftIn_value :
    field (fun t => t.acc)
      (runShiftIn 8 (machine [false, false, false, true, true, false, false, false] [])) = some 0x0018#16 := by decide

/-- R89, T6: no bit, no event. -/
theorem test_shiftIn_nothing :
    field (fun t => (t.acc, t.env.trace)) (runShiftIn 0 (machine [] [])) = some (0x0000#16, []) := by decide

/-! ## Witnesses -/

/-- A host with nothing listed asserts no reset. -/
theorem quiet_noReset {s : State} (h : s.env.host = []) (n : Nat) : NoReset n s := by
  intro k _
  simp [Env.hostAt, h]

/-- The reset state with legal parameters is in the invariant. -/
theorem machine_inv (line : List Level) (clock : List Clk) : EngineInv (machine line clock) where
  upcInRange := Nat.zero_lt_one
  idleSeq := fun _ => rfl
  dataDriven := fun h => absurd h Bool.false_ne_true
  dataReleased := fun _ => rfl
  sckDriven := fun h => absurd h Bool.false_ne_true
  sckNeverPulled := PadMode.noConfusion
  sckLevel := rfl
  doneIdle := fun _ => rfl
  noTempYet := fun _ => rfl
  paramsLegal := test_wf_accepts_legal

/-- A released position of a phase is in the invariant. -/
theorem running_inv {q : Seq} {p : Phase} {u : Nat} {v : Level} (line : List Level) (clock : List Clk)
    (hu : u < phaseLength p) (hq : p = .idle → q = .none) (hd : dataOutAt p u = false) (hv : v = sckHighAt p u) :
    EngineInv (running q p u v line clock) where
  upcInRange := hu
  idleSeq := hq
  dataDriven := fun h => absurd (hd.symm.trans h) Bool.false_ne_true
  dataReleased := fun _ => rfl
  sckDriven := fun _ => rfl
  sckNeverPulled := PadMode.noConfusion
  sckLevel := hv
  doneIdle := fun h => absurd h Bool.false_ne_true
  noTempYet := fun _ => rfl
  paramsLegal := test_wf_accepts_legal

/-- A driven position of a phase is in the invariant. -/
theorem driving_inv {p : Phase} {u : Nat} {v : Level} (hu : u < phaseLength p) (hd : dataInAt p u = false)
    (hv : v = sckHighAt p u) : EngineInv (driving p u v) where
  upcInRange := hu
  idleSeq := fun _ => rfl
  dataDriven := fun _ => rfl
  dataReleased := fun h => absurd (hd.symm.trans h) Bool.false_ne_true
  sckDriven := fun _ => rfl
  sckNeverPulled := PadMode.noConfusion
  sckLevel := hv
  doneIdle := fun h => absurd h Bool.false_ne_true
  noTempYet := fun _ => rfl
  paramsLegal := test_wf_accepts_legal

theorem witness_DecodeAndEncodeAgree :
    (Instr.sendcmd 0xFF#8).wf = true ∧ decode 0x0100#16 = .ok (.sendcmd 0x00#8) := by decide

/-- An idle and a busy engine with a legal word. -/
theorem witness_StepRunsDecodedInstruction :
    ((hosted ⟨false, true, 0x0300#16⟩).env.hostAt 0).rst = false ∧
      ((hosted ⟨false, true, 0x0300#16⟩).env.hostAt 0).cmdValid = true ∧
      decode ((hosted ⟨false, true, 0x0300#16⟩).env.hostAt 0).cmdWord = .ok .rdword ∧ Instr.rdword.wf = true := by decide

theorem witness_AcceptanceStepSetsPosition : (machine [] []).ph = .idle := rfl

theorem witness_IllegalWordOnlySetsIll :
    (hosted ⟨false, true, 0x07FF#16⟩).ph = .idle ∧ ((hosted ⟨false, true, 0x07FF#16⟩).env.hostAt 0).rst = false ∧
      ((hosted ⟨false, true, 0x07FF#16⟩).env.hostAt 0).cmdValid = true ∧
      decode ((hosted ⟨false, true, 0x07FF#16⟩).env.hostAt 0).cmdWord = .error .opSeven := by decide

theorem witness_IdleStepChangesNothing :
    (hosted ⟨false, false, 0x0300#16⟩).ph = .idle ∧ ((hosted ⟨false, false, 0x0300#16⟩).env.hostAt 0).rst = false ∧
      ((hosted ⟨false, false, 0x0300#16⟩).env.hostAt 0).cmdValid = false := by decide

/-- One step of a busy engine, the host presenting another word. -/
theorem witness_BusyEngineIgnoresCommandPort :
    NoReset 1 (driving .sc 12 false) ∧
      NoReset 1 { driving .sc 12 false with
        env := { (driving .sc 12 false).env with host := [⟨false, true, 0x0300#16⟩] } } ∧
      ∀ k t, k < 1 → steps k (driving .sc 12 false) = .next t → t.busy = true := by
  refine ⟨quiet_noReset rfl 1, by decide, fun k t hk h => ?_⟩
  obtain rfl : k = 0 := by omega
  obtain rfl := Host.Outcome.next.inj h
  rfl

theorem witness_ResetStepResetsEngine : ((hosted ⟨true, true, 0x0300#16⟩).env.hostAt 0).rst = true := by decide

theorem witness_SampleAndClockReadTakeNextAnswer : (machine [true] []).pads.dataMode ≠ .out := by decide

/-- Each mode of a line. -/
theorem witness_LineShowsLatchOnlyInOutputMode :
    padsAfterEnd.dataMode = .out ∧ Pads.reset.dataMode ≠ .out ∧ padsAfterEnd.sckMode = .out ∧
      Pads.reset.sckMode ≠ .out ∧ PadMode.pullIn ≠ .out := by decide

/-- Both ends of the range of `n`, and the first `n` past it. -/
theorem witness_ShiftInReturnsSampledValue :
    (0 ≤ 16 ∧ 16 ≤ 16) ∧ (machine [] []).pads.dataMode ≠ .out ∧ 16 < 17 := by decide

/-- T1a: 0xA5 over a loopback. -/
theorem witness_LoopbackReturnsTheByteSent :
    ∃ t, runLines (shiftOut8 0xA5#8) (machine [true, false, true, false, false, true, false, true] []) = .next t ∧
      ∀ k, k < 8 → (t.env.trace.drop 0)[3 * k]? = some (.drive .data (t.env.lineAt k)) :=
  ⟨_, rfl, by decide⟩

theorem witness_EveryStepKeepsInvariant :
    EngineInv (driving .sc 12 false) ∧ ∃ t, step (driving .sc 12 false) = .next t :=
  ⟨driving_inv (by decide) (by decide) (by decide), _, rfl⟩

theorem witness_EngineNeverStops : EngineInv (machine [] []) := machine_inv [] []

/-- A drive of DATA, a drive of SCK and a sample, each as the current line of a state of the invariant. -/
theorem witness_DrivesOnlyOutputsSamplesOnlyInputs :
    (EngineInv (driving .sc 12 false) ∧ (driving .sc 12 false).currentLine = some (.drive .data false .nothing)) ∧
    (EngineInv (driving .sc 13 false) ∧ (driving .sc 13 false).currentLine = some (.drive .sck true .nothing)) ∧
    (EngineInv (running .temp .rw 3 true [] []) ∧ (running .temp .rw 3 true [] []).currentLine = some (.sample .shift)) :=
  ⟨⟨driving_inv (by decide) (by decide) (by decide), by decide⟩,
    ⟨driving_inv (by decide) (by decide) (by decide), by decide⟩,
    ⟨running_inv [] [] (by decide) (by decide) (by decide) (by decide), by decide⟩⟩

/-- An ordinary line, and WR step 3 one millisecond before the deadline. -/
theorem witness_PositionAdvancesWithinPhase :
    (EngineInv (driving .sc 12 false) ∧ (driving .sc 12 false).busy = true ∧
      ((driving .sc 12 false).env.hostAt 0).rst = false ∧ ¬ EndsPhase (driving .sc 12 false)) ∧
    (EngineInv (running .humi .wr 3 false [] [2#32]) ∧ (running .humi .wr 3 false [] [2#32]).busy = true ∧
      ((running .humi .wr 3 false [] [2#32]).env.hostAt 0).rst = false ∧
      ¬ EndsPhase (running .humi .wr 3 false [] [2#32])) :=
  ⟨⟨driving_inv (by decide) (by decide) (by decide), by decide, by decide, by unfold EndsPhase; decide⟩,
    ⟨running_inv [] _ (by decide) (by decide) (by decide) (by decide), by decide, by decide,
      by unfold EndsPhase; decide⟩⟩

/-- Each way a phase ends: SC, RW, ET, the ready level, the deadline to the millisecond. -/
theorem witness_PhaseEndFollowsTable :
    (EngineInv (running .temp .sc 37 false [] []) ∧ EndsPhase (running .temp .sc 37 false [] [])) ∧
    (EngineInv (running .none .rw 55 true [] []) ∧ EndsPhase (running .none .rw 55 true [] [])) ∧
    (EngineInv (driving .et 4 true) ∧ EndsPhase (driving .et 4 true)) ∧
    (EngineInv (running .humi .wr 2 false [false] []) ∧ EndsPhase (running .humi .wr 2 false [false] [])) ∧
    (EngineInv (running .none .wr 3 false [] [3#32]) ∧ EndsPhase (running .none .wr 3 false [] [3#32])) ∧
    ((running .temp .sc 37 false [] []).env.hostAt 0).rst = false :=
  ⟨⟨running_inv [] [] (by decide) (by decide) (by decide) (by decide), .inl (by decide)⟩,
    ⟨running_inv [] [] (by decide) (by decide) (by decide) (by decide), .inr (.inl (by decide))⟩,
    ⟨driving_inv (by decide) (by decide) (by decide), .inr (.inr (.inl (by decide)))⟩,
    ⟨running_inv _ [] (by decide) (by decide) (by decide) (by decide), .inr (.inr (.inr (.inl (by decide))))⟩,
    ⟨running_inv [] _ (by decide) (by decide) (by decide) (by decide), .inr (.inr (.inr (.inr (by decide))))⟩,
    by decide⟩

/-- The step premise of DoneMarksExactlyCompletion, OneEventPerMicroOperation, RawWrittenOnlyAtEndOfReceive,
LastTempWrittenOnlyByMeast, FlagsWrittenOnlyWhereTheTableSays, CodeAndStartTimeHoldDuringOperation and
NoStepChangesStrapOrParameters: a busy step, RW step 55 inside MEAST, SC steps 35 and 37, the poll's ends, WR step 1,
an idle step. -/
theorem witness_step_next :
    (∃ t, step (driving .sc 12 false) = .next t) ∧ (∃ t, step (running .temp .rw 55 true [] []) = .next t) ∧
    (∃ t, step (running .none .sc 35 true [true] []) = .next t) ∧
    (∃ t, step (running .none .sc 37 false [true] []) = .next t) ∧
    (∃ t, step (running .none .wr 1 false [] [7#32]) = .next t) ∧
    (∃ t, step (running .none .wr 2 false [false] []) = .next t) ∧
    (∃ t, step (running .none .wr 3 false [] [3#32]) = .next t) ∧
    (∃ t, step (hosted ⟨false, true, 0x0201#16⟩) = .next t) ∧ (∃ t, step (machine [] []) = .next t) ∧
    ((driving .sc 12 false).env.hostAt 0).rst = false :=
  ⟨⟨_, rfl⟩, ⟨_, rfl⟩, ⟨_, rfl⟩, ⟨_, rfl⟩, ⟨_, rfl⟩, ⟨_, rfl⟩, ⟨_, rfl⟩, ⟨_, rfl⟩, ⟨_, rfl⟩, by decide⟩

/-- Each of the three phases of fixed length. -/
theorem witness_StepsRefineThePhaseRunInOneGo :
    (EngineInv (driving .sc 0 false) ∧ NoReset 38 (driving .sc 0 false)) ∧
    (EngineInv (driving .rw 0 false) ∧ NoReset 56 (driving .rw 0 false)) ∧
    (EngineInv (driving .et 0 false) ∧ NoReset 5 (driving .et 0 false)) :=
  ⟨⟨driving_inv (by decide) (by decide) (by decide), quiet_noReset rfl _⟩,
    ⟨driving_inv (by decide) (by decide) (by decide), quiet_noReset rfl _⟩,
    ⟨driving_inv (by decide) (by decide) (by decide), quiet_noReset rfl _⟩⟩

theorem witness_NothingReadsTheFlags :
    (machine [] []).withoutFlags = { machine [] [] with ack1 := true, tmo := true, ill := true }.withoutFlags := rfl

/-- SendcmdRunsToCompletion, SendcmdDrivesTheSameForAllAcknowledgments, RdwordReceivesSixteenBits,
EndtxLeavesDataDrivenHigh: an idle machine whose host asserts no reset. -/
theorem witness_idle_without_reset (n : Nat) : (machine [] []).ph = .idle ∧ NoReset n (machine [] []) :=
  ⟨rfl, quiet_noReset rfl n⟩

/-- T10, T15 and T12's shape: ready at the first sample, and the deadline after elapsed 2 of 3 and then 3 of 3. -/
theorem witness_WaitrdyEndsByReadyOrDeadline :
    ((machine [false] [100#32]).ph = .idle ∧ NoReset (1 + pollLength 0 false) (machine [false] [100#32]) ∧
      PollEnds 3#32 (machine [false] [100#32]).env.lineAt (machine [false] [100#32]).env.clockAt 0 false) ∧
    (NoReset (1 + pollLength 1 true) (machine [true, true] [5#32, 7#32, 8#32]) ∧
      PollEnds 3#32 (machine [true, true] [5#32, 7#32, 8#32]).env.lineAt
        (machine [true, true] [5#32, 7#32, 8#32]).env.clockAt 1 true) :=
  ⟨⟨rfl, quiet_noReset rfl _, by unfold PollEnds; decide⟩, quiet_noReset rfl _, by unfold PollEnds; decide⟩

/-- The first deadline read is at the deadline. -/
theorem witness_PollEndsNoLaterThanTheDeadlineRead :
    (machine [true] [5#32, 8#32]).ph = .idle ∧ NoReset (5 + 2 * 0) (machine [true] [5#32, 8#32]) ∧
      (machine [true] [5#32, 8#32]).params.timeoutMs.toNat ≤
        ((machine [true] [5#32, 8#32]).env.clockAt (0 + 1) - (machine [true] [5#32, 8#32]).env.clockAt 0).toNat :=
  ⟨rfl, quiet_noReset rfl _, by decide⟩

/-- One iteration, one millisecond before the deadline. -/
theorem witness_PollGoesOnWhileNeitherEndHolds :
    (machine [true] [5#32, 7#32]).ph = .idle ∧ NoReset (3 + 2 * 1) (machine [true] [5#32, 7#32]) ∧
      ∀ i, i < 1 → (machine [true] [5#32, 7#32]).env.lineAt i = true ∧
        ((machine [true] [5#32, 7#32]).env.clockAt (i + 1) - (machine [true] [5#32, 7#32]).env.clockAt 0).toNat <
          (machine [true] [5#32, 7#32]).params.timeoutMs.toNat :=
  ⟨rfl, quiet_noReset rfl _, by decide⟩

/-- MeastRunsOneTransaction, MeashRunsOneTransaction, MeasurementEqualsItsFourWords and
MeasurementMakesTwentyNineClockPulses: a poll that ends as ready and one that times out, after the two acknowledgments. -/
theorem witness_measurement :
    ((machine [false, true, false] [42#32]).ph = .idle ∧ (machine [false, true, false] [42#32]).env.trace = [] ∧
      NoReset (4 + (99 + pollLength 0 false)) (machine [false, true, false] [42#32]) ∧
      PollEnds 3#32 (fun k => (machine [false, true, false] [42#32]).env.lineAt (2 + k))
        (machine [false, true, false] [42#32]).env.clockAt 0 false) ∧
    (NoReset (4 + (99 + pollLength 1 true)) (machine [true, true, true, true] [5#32, 7#32, 8#32]) ∧
      PollEnds 3#32 (fun k => (machine [true, true, true, true] [5#32, 7#32, 8#32]).env.lineAt (2 + k))
        (machine [true, true, true, true] [5#32, 7#32, 8#32]).env.clockAt 1 true) :=
  ⟨⟨rfl, rfl, quiet_noReset rfl _, by unfold PollEnds; decide⟩, quiet_noReset rfl _, by unfold PollEnds; decide⟩

end Sys2Proof.Tests
end

section
/-! PROOFS. The registers, flags, ports and positions of spec/10_state.md (R14 to R35): what each kind of step writes,
once for all registers, and from it the statements of who writes what; the two line rules of R29; and that no step
reads a flag (R20). -/

namespace Sys2Proof.Machine

/-! ## The lines and where they stand (R22, R100, R102, R105) -/

/-- The check `usesStand`, line by line of its table. -/
theorem usesStand_iff (ph : Phase) (u : Nat) (l : MicroLine) :
    usesStand ph u l = true ↔
      (l = .sample .ack1 ↔ ph = .sc ∧ u = 35) ∧ (l = .sample .ack2 ↔ ph = .sc ∧ u = 37) ∧
      (l = .sample .poll ↔ ph = .wr ∧ u = 2) ∧ (l = .now .start ↔ ph = .wr ∧ u = 1) ∧
      (l = .now .deadline ↔ ph = .wr ∧ u = 3) ∧ (finishesWord l = true ↔ ph = .rw ∧ u = 55) := by
  have bool_iff (a p q : Bool) : (a == (p && q)) = true ↔ (a = true ↔ p = true ∧ q = true) := by
    cases a <;> cases p <;> cases q <;> decide
  simp only [usesStand, Bool.and_eq_true, bool_iff, beq_iff_eq, and_assoc]
  cases l with
  | mode ln m w => simp
  | drive ln v w => simp
  | sample u => cases u <;> simp
  | now u => cases u <;> simp

/-- Which line stands where. -/
theorem currentLine_uses {s : State} {l : MicroLine} (hl : s.currentLine = some l) :
    (l = .sample .ack1 ↔ s.ph = .sc ∧ s.upc = 35) ∧ (l = .sample .ack2 ↔ s.ph = .sc ∧ s.upc = 37) ∧
    (l = .sample .poll ↔ s.ph = .wr ∧ s.upc = 2) ∧ (l = .now .start ↔ s.ph = .wr ∧ s.upc = 1) ∧
    (l = .now .deadline ↔ s.ph = .wr ∧ s.upc = 3) ∧ (finishesWord l = true ↔ s.ph = .rw ∧ s.upc = 55) :=
  (usesStand_iff ..).mp (currentLine_fits hl).2.2

/-! ## The move of the position leaves the registers -/

section
variable (f : Flow) (s : State)

@[simp] theorem movePosition_code : (movePosition f s).code = s.code := by rw [movePosition_frame]
@[simp] theorem movePosition_val : (movePosition f s).val = s.val := by rw [movePosition_frame]
@[simp] theorem movePosition_raw : (movePosition f s).raw = s.raw := by rw [movePosition_frame]
@[simp] theorem movePosition_lastTemp : (movePosition f s).lastTemp = s.lastTemp := by rw [movePosition_frame]
@[simp] theorem movePosition_t0 : (movePosition f s).t0 = s.t0 := by rw [movePosition_frame]
@[simp] theorem movePosition_ack1 : (movePosition f s).ack1 = s.ack1 := by rw [movePosition_frame]
@[simp] theorem movePosition_ack2 : (movePosition f s).ack2 = s.ack2 := by rw [movePosition_frame]
@[simp] theorem movePosition_tmo : (movePosition f s).tmo = s.tmo := by rw [movePosition_frame]
@[simp] theorem movePosition_ltv : (movePosition f s).ltv = s.ltv := by rw [movePosition_frame]
@[simp] theorem movePosition_ill : (movePosition f s).ill = s.ill := by rw [movePosition_frame]
@[simp] theorem movePosition_pullEn : (movePosition f s).pullEn = s.pullEn := by rw [movePosition_frame]
@[simp] theorem movePosition_params : (movePosition f s).params = s.params := by rw [movePosition_frame]

end

/-! ## What a line and a step write (R14 to R25) -/

/-- What a line of a micro-program, from `s` to `t`, writes into the registers, by what the line is. -/
structure LineWrites (l : MicroLine) (s t : State) : Prop where
  val : finishesWord l = true → t.val = combine s.val s.acc
  raw : t.raw = if finishesWord l = true then combine s.val s.acc else s.raw
  lastTemp : t.lastTemp = if finishesWord l = true ∧ s.seq = .temp then combine s.val s.acc else s.lastTemp
  ltv : t.ltv = if finishesWord l = true ∧ s.seq = .temp then true else s.ltv
  t0 : t.t0 = if l = .now .start then s.env.clockAt 0 else s.t0
  ack1 : t.ack1 = if l = .sample .ack1 then s.env.lineAt 0 else s.ack1
  ack2 : t.ack2 = if l = .sample .ack2 then s.env.lineAt 0 else s.ack2
  tmo : t.tmo =
    if l = .sample .poll ∧ s.env.lineAt 0 = false then false
    else if l = .now .deadline ∧ s.params.timeoutMs.toNat ≤ (s.env.clockAt 0 - s.t0).toNat then true
    else s.tmo

theorem lineEffect_writes {l : MicroLine} {s t : State} (h : lineEffect l s = .next t) : LineWrites l s t := by
  obtain ⟨ln, m, w, rfl, rfl⟩ | ⟨ln, v, w, rfl, rfl⟩ | ⟨u, rfl, -, rfl⟩ | ⟨u, rfl, rfl⟩ := lineEffect_cases h
  · rw [RegWrite.apply_eq]; by_cases hw : w = .finishWord <;> constructor <;> simp [finishesWord, hw]
  · rw [RegWrite.apply_eq]; by_cases hw : w = .finishWord <;> constructor <;> simp [finishesWord, hw]
  · rw [SampleUse.apply_eq]; constructor <;> simp [finishesWord, lineSample]
  · rw [ClockUse.apply_eq]; constructor <;> simp [finishesWord, readClock, deadlinePassed_iff]

/-- What a step without a reset, from `s` to `t`, writes into the registers, by the position it is made at. -/
structure StepWrites (s t : State) : Prop where
  val : s.ph = .rw ∧ s.upc = 55 → t.val = combine s.val s.acc
  raw : t.raw = if s.ph = .rw ∧ s.upc = 55 then combine s.val s.acc else s.raw
  lastTemp : t.lastTemp =
    if (s.ph = .rw ∧ s.upc = 55) ∧ s.seq = .temp then combine s.val s.acc else s.lastTemp
  ltv : t.ltv = if (s.ph = .rw ∧ s.upc = 55) ∧ s.seq = .temp then true else s.ltv
  t0 : t.t0 = if s.ph = .wr ∧ s.upc = 1 then s.env.clockAt 0 else s.t0
  ack1 : t.ack1 = if s.ph = .sc ∧ s.upc = 35 then s.env.lineAt 0 else s.ack1
  ack2 : t.ack2 = if s.ph = .sc ∧ s.upc = 37 then s.env.lineAt 0 else s.ack2
  tmo : t.tmo =
    if (s.ph = .wr ∧ s.upc = 2) ∧ s.env.lineAt 0 = false then false
    else if (s.ph = .wr ∧ s.upc = 3) ∧ s.params.timeoutMs.toNat ≤ (s.env.clockAt 0 - s.t0).toNat then true
    else s.tmo

/-- A running step writes what the line at its position writes. -/
theorem microStep_writes {s t : State} (h : microStep s = .next t) : StepWrites s t := by
  obtain ⟨l, u, hl, hu, rfl⟩ := microStep_cases h
  obtain ⟨hack1, hack2, hpoll, hstart, hdeadline, hfinish⟩ := currentLine_uses hl
  have hw := lineEffect_writes hu
  constructor
  · simpa [hfinish] using hw.val
  · simpa [hfinish] using hw.raw
  · simpa [hfinish] using hw.lastTemp
  · simpa [hfinish] using hw.ltv
  · simpa [hstart] using hw.t0
  · simpa [hack1] using hw.ack1
  · simpa [hack2] using hw.ack2
  · simpa [hpoll, hdeadline] using hw.tmo

theorem step_writes {s t : State} (h : step s = .next t) (hr : (s.env.hostAt 0).rst = false) : StepWrites s t := by
  obtain ⟨hr', -⟩ | ⟨-, -, hm⟩ | ⟨-, hp, -, ⟨i, -, rfl⟩ | ⟨-, rfl⟩⟩ | ⟨-, hp, -, rfl⟩ := step_cases h
  · simp [hr] at hr'
  · exact microStep_writes hm
  · constructor <;> simp [hp]
  · constructor <;> simp [hp]
  · constructor <;> simp [hp]

/-- What a running step leaves: `CODE`, `ILL`, the strap and the parameters. -/
theorem microStep_frame {s t : State} (h : microStep s = .next t) :
    t.code = s.code ∧ t.ill = s.ill ∧ t.pullEn = s.pullEn ∧ t.params = s.params := by
  obtain ⟨l, u, -, hu, rfl⟩ := microStep_cases h
  obtain ⟨-, -, -, hcode, hill, -, hpull, hparams⟩ := lineEffect_frame hu
  simpa using ⟨hcode, hill, hpull, hparams⟩

/-! ## The line rules of R29 and the micro-sequencer (R18) -/

/-- Settles O24: the lines stand only where the pads are set for them, which the invariant says. -/
theorem drivesOnlyOutputsSamplesOnlyInputs : Obligations.DrivesOnlyOutputsSamplesOnlyInputs := by
  intro s hs
  refine ⟨fun v w hl => ?_, fun v w hl => ?_, fun u hl => ?_⟩
  · exact hs.dataDriven (currentLine_fits hl).1
  · exact hs.sckDriven (currentLine_fits hl).1
  · exact hs.dataReleased (currentLine_fits hl).1

theorem lineEffect_sample_driven {s : State} (u : SampleUse) (h : s.pads.dataMode = .out) :
    lineEffect (.sample u) s = .fault .sampleWhileDriven :=
  if_pos h

theorem lineEffect_sample_released {s : State} (u : SampleUse) (h : s.pads.dataMode ≠ .out) :
    lineEffect (.sample u) s = .next (u.apply (s.env.lineAt 0) (lineSample s)) :=
  if_neg h

/-- In a state of the invariant the line at the position never faults (R29). -/
theorem lineEffect_answers {s : State} {l : MicroLine} (hs : EngineInv s) (hl : s.currentLine = some l) :
    ∃ u, lineEffect l s.tick = .next u := by
  cases l with
  | mode ln m w => exact ⟨_, rfl⟩
  | drive ln v w => exact ⟨_, rfl⟩
  | now u => exact ⟨_, rfl⟩
  | sample u =>
    have hmode : s.pads.dataMode = inMode s.pullEn := hs.dataReleased (currentLine_fits hl).1
    exact ⟨_, lineEffect_sample_released u (by simp [hmode])⟩

/-- A busy step in a state of the invariant performs the line at its position and moves on by its flow (R84). -/
theorem step_running {s : State} (hs : EngineInv s) (hb : s.ph ≠ .idle) (hr : (s.env.hostAt 0).rst = false) :
    ∃ l u, s.currentLine = some l ∧ lineEffect l s.tick = .next u ∧
      step s = .next (movePosition (lineFlow l s) u) := by
  obtain ⟨l, hl⟩ := currentLine_exists hb hs.upcInRange
  obtain ⟨u, hu⟩ := lineEffect_answers hs hl
  exact ⟨l, u, hl, hu, (step_busy hr hb).trans (microStep_next hl hu)⟩

/-- Only the two tests of the poll leave the straight way. -/
theorem lineFlow_eq_advance {l : MicroLine} (s : State) (hp : l ≠ .sample .poll) (hd : l ≠ .now .deadline) :
    lineFlow l s = .advance := by
  cases l with
  | mode ln m w => rfl
  | drive ln v w => rfl
  | sample u =>
    cases u with
    | poll => exact absurd rfl hp
    | ack1 => rfl
    | ack2 => rfl
    | shift => rfl
  | now u =>
    cases u with
    | start => rfl
    | deadline => exact absurd rfl hd

/-- Inside a phase the flow is one line on, but back to line 2 from WR step 3 (R18, R102). -/
theorem lineFlow_within_phase {s : State} {l : MicroLine} (hl : s.currentLine = some l) (he : ¬ EndsPhase s) :
    lineFlow l s = if s.ph = .wr ∧ s.upc = 3 then .goto 2 else .advance := by
  obtain ⟨-, -, hpoll, -, hdeadline, -⟩ := currentLine_uses hl
  simp only [EndsPhase, not_or, not_and] at he
  obtain ⟨-, -, -, hready, hpassed⟩ := he
  by_cases hd : s.ph = .wr ∧ s.upc = 3
  · rw [if_pos hd, hdeadline.mpr hd]
    exact lineFlow_deadline_ahead (Nat.lt_of_not_le (hpassed hd.1 hd.2))
  · rw [if_neg hd]
    by_cases hp : s.ph = .wr ∧ s.upc = 2
    · rw [hpoll.mpr hp]
      exact lineFlow_poll_waiting (Bool.of_not_eq_false (hready hp.1 hp.2))
    · exact lineFlow_eq_advance s (mt hpoll.mp hp) (mt hdeadline.mp hd)

/-- A position that ends no phase and is not WR step 3 is not the last of its phase (R124). -/
theorem not_last_within_phase {s : State} (hb : s.ph ≠ .idle) (he : ¬ EndsPhase s)
    (hd : ¬ (s.ph = .wr ∧ s.upc = 3)) : s.upc + 1 ≠ phaseLength s.ph := by
  simp only [EndsPhase, not_or, not_and] at he
  obtain ⟨hsc, hrw, het, -, -⟩ := he
  cases hp : s.ph with
  | idle => exact absurd hp hb
  | sc => have := hsc hp; simp only [phaseLength]; omega
  | wr => have : s.upc ≠ 3 := fun hu => hd ⟨hp, hu⟩; simp only [phaseLength]; omega
  | rw => have := hrw hp; simp only [phaseLength]; omega
  | et => have := het hp; simp only [phaseLength]; omega

/-- Settles O25: the flow of the line inside a phase, and a position that is not the last. -/
theorem positionAdvancesWithinPhase : Obligations.PositionAdvancesWithinPhase := by
  intro s hs hb hr he
  rw [State.busy_eq_true] at hb
  obtain ⟨l, u, hl, hu, hstep⟩ := step_running hs hb hr
  obtain ⟨hseq, hph, hupc, -, -, hdone, -⟩ := lineEffect_frame hu
  simp only [State.tick_seq, State.tick_ph, State.tick_upc, State.tick_done] at hseq hph hupc hdone
  rw [lineFlow_within_phase hl he] at hstep
  refine ⟨_, hstep, ?_⟩
  by_cases hd : s.ph = .wr ∧ s.upc = 3
  · simp only [if_pos hd]
    exact ⟨hph, hseq, hdone, rfl⟩
  · have hlast : u.upc + 1 ≠ u.program.length := by
      rw [program_length (hph ▸ hb), hph, hupc]
      exact not_last_within_phase hb he hd
    simp only [if_neg hd, movePosition_advance hlast]
    exact ⟨hph, hseq, hdone, by rw [hupc]⟩

/-! ## Who writes what (R14 to R26) -/

/-- Settles O30: `RAW`'s clause of what a step writes. -/
theorem rawWrittenOnlyAtEndOfReceive : Obligations.RawWrittenOnlyAtEndOfReceive := by
  intro s t h hr
  have hw := step_writes h hr
  split
  next hpos => exact ⟨hw.raw.trans (if_pos hpos), hw.val hpos⟩
  next hpos => exact hw.raw.trans (if_neg hpos)

/-- Settles O31: the clauses of `LAST_TEMP` and `LTV`, and `RAW`'s beside them. -/
theorem lastTempWrittenOnlyByMeast : Obligations.LastTempWrittenOnlyByMeast := by
  intro s t h hr
  have hw := step_writes h hr
  split
  next hpos =>
    obtain ⟨hph, hupc, hseq⟩ := hpos
    have hlast : t.lastTemp = combine s.val s.acc := hw.lastTemp.trans (if_pos ⟨⟨hph, hupc⟩, hseq⟩)
    have hraw : t.raw = combine s.val s.acc := hw.raw.trans (if_pos ⟨hph, hupc⟩)
    exact ⟨hlast, hlast.trans hraw.symm, hw.ltv.trans (if_pos ⟨⟨hph, hupc⟩, hseq⟩)⟩
  next hpos =>
    rw [← and_assoc] at hpos
    exact ⟨hw.lastTemp.trans (if_neg hpos), hw.ltv.trans (if_neg hpos)⟩

/-- `ILL` is set by an accepted illegal word and by nothing else, and only a reset clears it (R26, R130). -/
theorem step_ill_iff {s t : State} (h : step s = .next t) (hr : (s.env.hostAt 0).rst = false) :
    t.ill = true ↔ s.ill = true ∨
      (s.ph = .idle ∧ (s.env.hostAt 0).cmdValid = true ∧ ∃ e, decode (s.env.hostAt 0).cmdWord = .error e) := by
  obtain ⟨hr', -⟩ | ⟨-, hb, hm⟩ | ⟨-, hp, hv, ⟨i, hi, rfl⟩ | ⟨he, rfl⟩⟩ | ⟨-, hp, hv, rfl⟩ := step_cases h
  · simp [hr] at hr'
  · obtain ⟨-, hill, -⟩ := microStep_frame hm
    simp [hill, hb]
  · simp [hi]
  · simp [hp, hv, he]
  · simp [hv]

/-- Settles O32: the clauses of the three sampled flags, and `ILL`'s own rule. -/
theorem flagsWrittenOnlyWhereTheTableSays : Obligations.FlagsWrittenOnlyWhereTheTableSays := by
  intro s t h hr
  have hw := step_writes h hr
  have htmo := hw.tmo
  simp only [and_assoc] at htmo
  exact ⟨hw.ack1, hw.ack2, htmo, step_ill_iff h hr⟩

/-- Settles O33: a running step leaves `CODE`; `T0`'s clause of what a step writes. -/
theorem codeAndStartTimeHoldDuringOperation : Obligations.CodeAndStartTimeHoldDuringOperation := by
  intro s t h hr
  refine ⟨fun hb => ?_, (step_writes h hr).t0⟩
  rw [step_busy hr ((State.busy_eq_true s).mp hb)] at h
  obtain ⟨hcode, -⟩ := microStep_frame h
  exact hcode

/-- Settles O34: each kind of step leaves both. -/
theorem noStepChangesStrapOrParameters : Obligations.NoStepChangesStrapOrParameters := by
  intro s t h
  obtain ⟨-, rfl⟩ | ⟨-, -, hm⟩ | ⟨-, -, -, ⟨i, -, rfl⟩ | ⟨-, rfl⟩⟩ | ⟨-, -, -, rfl⟩ := step_cases h
  · exact ⟨rfl, rfl⟩
  · obtain ⟨-, -, hpull, hparams⟩ := microStep_frame hm
    exact ⟨hpull, hparams⟩
  · exact ⟨rfl, rfl⟩
  · exact ⟨rfl, rfl⟩
  · exact ⟨rfl, rfl⟩

/-! ## No step reads a flag (R20) -/

theorem mapNext_mapNext (f g : State → State) (r : Result) : mapNext f (mapNext g r) = mapNext (f ∘ g) r := by
  cases r <;> rfl

theorem mapNext_eq_next {f : State → State} {r : Result} {u : State} (h : mapNext f r = .next u) :
    ∃ t, r = .next t ∧ f t = u := by
  cases r with
  | next t => exact ⟨t, rfl, Host.Outcome.next.inj h⟩
  | fault e => cases h
  | refused e => cases h

theorem mapNext_eq_fault {f : State → State} {r : Result} {e : Fault} (h : mapNext f r = .fault e) : r = .fault e := by
  cases r with
  | next t => cases h
  | fault e => exact h
  | refused e => cases h

theorem mapNext_eq_refused {f : State → State} {r : Result} {e : Refusal} (h : mapNext f r = .refused e) :
    r = .refused e := by
  cases r with
  | next t => cases h
  | fault e => cases h
  | refused e => exact h

/-- A line of the state with its flags cleared makes the same state but for the flags. -/
theorem lineEffect_withoutFlags (l : MicroLine) (s : State) :
    mapNext State.withoutFlags (lineEffect l s.withoutFlags) = mapNext State.withoutFlags (lineEffect l s) := by
  cases l with
  | mode ln m w => simp only [lineEffect, mapNext, RegWrite.apply_eq]; rfl
  | drive ln v w => simp only [lineEffect, mapNext, RegWrite.apply_eq]; rfl
  | sample u =>
    by_cases hd : s.pads.dataMode = .out
    · rw [lineEffect_sample_driven u hd, lineEffect_sample_driven (s := s.withoutFlags) u hd]
    · rw [lineEffect_sample_released u hd, lineEffect_sample_released (s := s.withoutFlags) u hd]
      simp only [mapNext, SampleUse.apply_eq]; rfl
  | now u => simp only [lineEffect, mapNext, ClockUse.apply_eq]; rfl

theorem endPhase_completes {s : State} (h : nextPhase s.seq s.ph = .idle) : endPhase s = completeOperation s :=
  (endPhase_eq s).trans (if_pos h)

theorem endPhase_enters {s : State} (h : nextPhase s.seq s.ph ≠ .idle) :
    endPhase s = enterPhase (nextPhase s.seq s.ph) s :=
  (endPhase_eq s).trans (if_neg h)

theorem endPhase_withoutFlags (s : State) : endPhase s.withoutFlags = (endPhase s).withoutFlags := by
  by_cases h : nextPhase s.seq s.ph = .idle
  · rw [endPhase_completes h, endPhase_completes (s := s.withoutFlags) h]; rfl
  · rw [endPhase_enters h, endPhase_enters (s := s.withoutFlags) h]; rfl

theorem movePosition_withoutFlags (f : Flow) (s : State) :
    movePosition f s.withoutFlags = (movePosition f s).withoutFlags := by
  cases f with
  | advance =>
    by_cases h : s.upc + 1 = s.program.length
    · rw [movePosition_last h, movePosition_last (s := s.withoutFlags) h, endPhase_withoutFlags]
    · rw [movePosition_advance h, movePosition_advance (s := s.withoutFlags) h]; rfl
  | goto n => rfl
  | finish => exact endPhase_withoutFlags s

/-- The flow of a line does not depend on the flags (R124). -/
theorem lineFlow_withoutFlags (l : MicroLine) (s : State) : lineFlow l s.withoutFlags = lineFlow l s := by
  cases l <;> rfl

theorem microStep_eq_mapNext {s : State} {l : MicroLine} (hl : s.currentLine = some l) :
    microStep s = mapNext (movePosition (lineFlow l s)) (lineEffect l s.tick) := by
  simp only [microStep, hl]
  cases lineEffect l s.tick <;> rfl

theorem microStep_withoutFlags (s : State) :
    mapNext State.withoutFlags (microStep s.withoutFlags) = mapNext State.withoutFlags (microStep s) := by
  cases hl : s.currentLine with
  | none =>
    have hl' : s.withoutFlags.currentLine = none := hl
    simp [microStep, hl, hl']
  | some l =>
    have hl' : s.withoutFlags.currentLine = some l := hl
    have hcomm : State.withoutFlags ∘ movePosition (lineFlow l s) = movePosition (lineFlow l s) ∘ State.withoutFlags :=
      funext fun u => (movePosition_withoutFlags _ u).symm
    rw [microStep_eq_mapNext hl, microStep_eq_mapNext hl', lineFlow_withoutFlags, mapNext_mapNext, mapNext_mapNext,
      hcomm, ← mapNext_mapNext, ← mapNext_mapNext]
    exact congrArg _ (lineEffect_withoutFlags l s.tick)

/-- A step of the state with its flags cleared makes the same state but for the flags (R20). -/
theorem step_withoutFlags (s : State) :
    mapNext State.withoutFlags (step s.withoutFlags) = mapNext State.withoutFlags (step s) := by
  cases hr : (s.env.hostAt 0).rst with
  | true => rw [step_reset hr, step_reset (s := s.withoutFlags) hr]; rfl
  | false =>
    by_cases hb : s.ph = .idle
    · cases hv : (s.env.hostAt 0).cmdValid with
      | false => rw [step_quiet hr hb hv, step_quiet (s := s.withoutFlags) hr hb hv]; rfl
      | true =>
        rw [step_present hr hb hv, step_present (s := s.withoutFlags) hr hb hv]
        change mapNext _ (presentWord (s.env.hostAt 0).cmdWord s.withoutFlags) = _
        cases hd : decode (s.env.hostAt 0).cmdWord with
        | ok i => simp only [presentWord, hd, exec_idle i hb, exec_idle (s := s.withoutFlags) i hb]; cases i <;> rfl
        | error e =>
          simp only [presentWord, hd, present_idle hb, present_idle (s := s.withoutFlags) hb]; rfl
    · rw [step_busy hr hb, step_busy (s := s.withoutFlags) hr hb, microStep_withoutFlags]

/-- States that differ only in the flags step to results that differ only in the flags. -/
theorem step_sameButFlags {s s' : State} (h : s.withoutFlags = s'.withoutFlags) :
    mapNext State.withoutFlags (step s) = mapNext State.withoutFlags (step s') := by
  rw [← step_withoutFlags s, ← step_withoutFlags s', h]

/-- Settles O36, by induction on the number of steps. -/
theorem nothingReadsTheFlags : Obligations.NothingReadsTheFlags := by
  intro n
  induction n with
  | zero => exact fun s s' h => congrArg Host.Outcome.next h
  | succ n ih =>
    intro s s' h
    have hstep := step_sameButFlags h
    cases hs : step s with
    | next t =>
      rw [hs] at hstep
      obtain ⟨t', hs', ht⟩ := mapNext_eq_next hstep.symm
      rw [steps_succ_of_step hs, steps_succ_of_step hs']
      exact ih t t' ht.symm
    | fault e =>
      rw [hs] at hstep
      simp only [steps, hs, mapNext_eq_fault hstep.symm]
    | refused e =>
      rw [hs] at hstep
      simp only [steps, hs, mapNext_eq_refused hstep.symm]

/-! ## The reset values, the lines and the ports (R20, R28, R31, R35) -/

/-- Settles O11: the table of R35, row by row. -/
theorem resetStateHasTableValues : Obligations.ResetStateHasTableValues :=
  ⟨rfl, rfl, rfl, rfl, rfl, rfl, rfl, rfl, rfl, rfl, rfl, rfl, rfl, rfl, rfl, rfl⟩

theorem driven_data_of_out {p : Pads} (h : p.dataMode = .out) : p.driven .data = some p.dataLatch := if_pos h
theorem driven_data_of_input {p : Pads} (h : p.dataMode ≠ .out) : p.driven .data = none := if_neg h
theorem driven_sck_of_out {p : Pads} (h : p.sckMode = .out) : p.driven .sck = some p.sckLatch := if_pos h
theorem driven_sck_of_input {p : Pads} (h : p.sckMode ≠ .out) : p.driven .sck = none := if_neg h

/-- Settles O15: the two modes of each line, a changed mode among them. -/
theorem lineShowsLatchOnlyInOutputMode : Obligations.LineShowsLatchOnlyInOutputMode := fun p m =>
  ⟨driven_data_of_out, driven_data_of_input, driven_sck_of_out, driven_sck_of_input,
    driven_data_of_out (Pads.setMode_data_dataMode .out p), driven_sck_of_out (Pads.setMode_sck_sckMode .out p),
    fun hm => driven_data_of_input (p := p.setMode .data m) hm⟩

/-- Settles O16: each port is its field, or a comparison of the mode. -/
theorem portsShowTheState : Obligations.PortsShowTheState := fun _ =>
  ⟨beq_iff_eq, beq_iff_eq, rfl, beq_iff_eq, rfl, rfl, rfl, rfl, rfl⟩

/-- A flag stands at its own bit and at no other. -/
theorem getLsbD_flagAt (i j : Nat) (b : Bool) : (flagAt i b).getLsbD j = (decide (j < 8) && decide (i = j) && b) := by
  cases b with
  | false => simp [flagAt]
  | true =>
    have hbit : (!decide (j < i) && decide (j - i = 0)) = decide (i = j) := by
      by_cases hij : i = j
      · simp [hij]
      · by_cases hlt : j < i
        · simp [hij, hlt]
        · simp [hij, hlt, show j - i ≠ 0 by omega]
    simp [flagAt, BitVec.getLsbD_one, Bool.and_assoc, hbit]

theorem State.busy_eq_decide (s : State) : s.busy = decide (s.ph ≠ .idle) := by
  rw [Bool.eq_iff_iff, State.busy_eq_true, decide_eq_true_iff]

/-- Settles O35: each bit of the `or` is the flag that stands there. -/
theorem statusWordHasItsBits : Obligations.StatusWordHasItsBits := by
  intro s
  simp only [State.status, State.cmdReady, State.busy_eq_decide, BitVec.getLsbD_or, getLsbD_flagAt]
  simp

end Sys2Proof.Machine
end

section
/-! PROOFS. The environment's data over a step (spec/20_memory.md): the trace grows by the event of the micro-operation
that a running step performs and by nothing else (R48, R84). -/

namespace Sys2Proof.Machine

@[simp] theorem movePosition_env (f : Flow) (s : State) : (movePosition f s).env = s.env := by rw [movePosition_frame]

/-- A running step appends the one event of its line (R84). -/
theorem microStep_trace {s t : State} (h : microStep s = .next t) : ∃ e, t.env.trace = s.env.trace ++ [e] := by
  obtain ⟨l, u, -, hu, rfl⟩ := microStep_cases h
  obtain ⟨e, he⟩ := lineEffect_trace hu
  exact ⟨e, by simpa using he⟩

/-- Settles O28: the running step by its line's event; the reset, acceptance and idle steps only use up the host's
levels, which leaves the trace. -/
theorem oneEventPerMicroOperation : Obligations.OneEventPerMicroOperation := by
  intro s t h
  obtain ⟨hr, rfl⟩ | ⟨hr, hb, hm⟩ | ⟨-, hp, -, ⟨i, -, rfl⟩ | ⟨-, rfl⟩⟩ | ⟨-, hp, -, rfl⟩ := step_cases h
  · simp [hr]
  · rw [if_pos ⟨(State.busy_eq_true s).mpr hb, hr⟩]
    exact microStep_trace hm
  · simp [hp]
  · simp [hp]
  · simp [hp]

end Sys2Proof.Machine
end

section
/-! PROOFS. The command word (spec/30_encoding.md R60 to R64): the decoder is the inverse of the encoder, so the legal
words are the encodings of the instructions. -/

namespace Sys2Proof

/-! ## The decoder by the fields of the word (R60) -/

@[simp] theorem fieldZero_commandWord (op : BitVec 3) (arg : Byte) : fieldZero (commandWord op arg) = 0#5 :=
  fieldZero_mk _ _ _

@[simp] theorem fieldOp_commandWord (op : BitVec 3) (arg : Byte) : fieldOp (commandWord op arg) = op :=
  fieldOp_mk _ _ _

@[simp] theorem fieldArg_commandWord (op : BitVec 3) (arg : Byte) : fieldArg (commandWord op arg) = arg :=
  fieldArg_mk _ _ _

/-- A word with `zero` = 0 is put together again from its `op` and `arg`. -/
theorem commandWord_of_fields {w : Word} {op : BitVec 3} {arg : Byte} (hzero : fieldZero w = 0#5)
    (hop : (fieldOp w).toNat = op.toNat) (harg : fieldArg w = arg) : commandWord op arg = w := by
  rw [commandWord, ← hzero, ← BitVec.eq_of_toNat_eq hop, ← harg, word_of_fields]

/-- What `decodeNoOperand` reads from a word is the operation of the word's `op`, and the word is its encoding. -/
theorem encode_of_decodeNoOperand {w : Word} {i j : Instr} (op : BitVec 3) (hzero : fieldZero w = 0#5)
    (hi : encode i = commandWord op 0x00#8) (hop : (fieldOp w).toNat = op.toNat)
    (h : decodeNoOperand w i = .ok j) : encode j = w := by
  unfold decodeNoOperand at h
  split at h
  next harg => obtain rfl := Except.ok.inj h; exact hi.trans (commandWord_of_fields hzero hop harg)
  next => contradiction

theorem decode_encode (i : Instr) : decode (encode i) = .ok i := by
  cases i <;> simp [decode, encode, decodeNoOperand]

theorem encode_of_decode {w : Word} {i : Instr} (h : decode w = .ok i) : encode i = w := by
  unfold decode at h
  split at h
  · contradiction
  next hzero =>
    rw [ne_eq, not_not] at hzero
    split at h
    next => contradiction
    next hop => obtain rfl := Except.ok.inj h; exact commandWord_of_fields hzero hop rfl
    next hop => exact encode_of_decodeNoOperand 2#3 hzero rfl hop h
    next hop => exact encode_of_decodeNoOperand 3#3 hzero rfl hop h
    next hop => exact encode_of_decodeNoOperand 4#3 hzero rfl hop h
    next hop => exact encode_of_decodeNoOperand 5#3 hzero rfl hop h
    next hop => exact encode_of_decodeNoOperand 6#3 hzero rfl hop h
    next => contradiction

/-- The decoder reads an instruction exactly from its encoding (R62). -/
theorem decode_eq_ok_iff {w : Word} {i : Instr} : decode w = .ok i ↔ w = encode i :=
  ⟨fun h => (encode_of_decode h).symm, fun h => h ▸ decode_encode i⟩

/-- The word of `SENDCMD c` as R62 writes it. -/
theorem encode_sendcmd (c : Byte) : encode (.sendcmd c) = 0x0100#16 ||| c.zeroExtend 16 := by
  rw [encode, commandWord, BitVec.append_def]
  rfl

/-- Settles O1: the word of each instruction is the one its row shows. -/
theorem decodeFollowsOperationMap : Obligations.DecodeFollowsOperationMap := by
  intro w i
  rw [decode_eq_ok_iff]
  cases i with
  | sendcmd c => rw [encode_sendcmd]; simp
  | waitrdy => simp [encode, commandWord]
  | rdword => simp [encode, commandWord]
  | endtx => simp [encode, commandWord]
  | meast => simp [encode, commandWord]
  | meash => simp [encode, commandWord]

/-! ## The illegal words (R64) -/

theorem decodeNoOperand_eq_error_iff {w : Word} {i : Instr} :
    (∃ e, decodeNoOperand w i = .error e) ↔ fieldArg w ≠ 0x00#8 := by
  unfold decodeNoOperand
  split <;> simp [*]

theorem decode_eq_error_iff {w : Word} :
    (∃ e, decode w = .error e) ↔
      fieldZero w ≠ 0#5 ∨ (fieldOp w).toNat = 0 ∨ (fieldOp w).toNat = 7 ∨
        (2 ≤ (fieldOp w).toNat ∧ (fieldOp w).toNat ≤ 6 ∧ fieldArg w ≠ 0x00#8) := by
  have hlt := (fieldOp w).isLt
  unfold decode
  split
  next hzero => simp [hzero]
  next hzero =>
    rw [or_iff_right hzero]
    split
    next hop => simp [hop]
    next hop => simp [hop]
    next hop => simp [hop, decodeNoOperand_eq_error_iff]
    next hop => simp [hop, decodeNoOperand_eq_error_iff]
    next hop => simp [hop, decodeNoOperand_eq_error_iff]
    next hop => simp [hop, decodeNoOperand_eq_error_iff]
    next hop => simp [hop, decodeNoOperand_eq_error_iff]
    next =>
      have hop : (fieldOp w).toNat = 7 := by simp only [imp_false] at *; omega
      simp [hop]

/-- Settles O3: R64's bit ranges are the three fields of R60. -/
theorem decodeRejectsExactlyIllegalWords : Obligations.DecodeRejectsExactlyIllegalWords := by
  intro w
  have hfield (n : BitVec 3) : w.extractLsb 10 8 = n ↔ (fieldOp w).toNat = n.toNat := BitVec.toNat_inj.symm
  rw [hfield, hfield]
  exact decode_eq_error_iff

/-! ## The number of legal words (R64) -/

/-- Every instruction: 256 times SENDCMD and the five without operand. -/
def allInstrs : Finset Instr :=
  (Finset.univ.image .sendcmd) ∪ {.waitrdy, .rdword, .endtx, .meast, .meash}

theorem mem_allInstrs (i : Instr) : i ∈ allInstrs := by
  cases i <;> simp [allInstrs]

theorem card_allInstrs : allInstrs.card = 261 := by
  have hinj : Function.Injective Instr.sendcmd := fun _ _ => Instr.sendcmd.inj
  have hdisj : Disjoint (Finset.univ.image Instr.sendcmd) {.waitrdy, .rdword, .endtx, .meast, .meash} := by
    simp [Finset.disjoint_left]
  rw [allInstrs, Finset.card_union_of_disjoint hdisj, Finset.card_image_of_injective _ hinj, Finset.card_univ,
    ← FinEnum.card_eq_fintypeCard, FinEnum.card_bitVec]
  rfl

theorem encode_injective : Function.Injective encode := fun i j h =>
  Except.ok.inj (((decode_encode i).symm.trans (congrArg decode h)).trans (decode_encode j))

theorem isOk_decode_iff {w : Word} : (decode w).isOk = true ↔ ∃ i, w = encode i := by
  simp only [← decode_eq_ok_iff]
  cases decode w <;> simp [Except.isOk, Except.toBool]

/-- Settles O4: the legal words are the encodings, one for each instruction. -/
theorem legalWordsNumber261 : Obligations.LegalWordsNumber261 := by
  have himage : (Finset.univ.filter fun n : Fin 65536 => (decode (BitVec.ofFin n)).isOk = true) =
      allInstrs.image fun i => (encode i).toFin := by
    ext n
    simp only [Finset.mem_filter, Finset.mem_univ, true_and, isOk_decode_iff, Finset.mem_image, mem_allInstrs]
    exact exists_congr fun i => ⟨fun h => h ▸ rfl, fun h => h ▸ rfl⟩
  have hinj : Function.Injective fun i => (encode i).toFin := fun _ _ h => encode_injective (BitVec.eq_of_toFin_eq h)
  rw [Obligations.LegalWordsNumber261, himage, Finset.card_image_of_injective _ hinj, card_allInstrs]

end Sys2Proof
end

section
/-! PROOFS. Runs of many steps (spec/40_line_primitives.md R84): a phase of fixed length run step by step is its
micro-program run in one go, and a program's events are the spec's frames (spec/30_encoding.md R67 to R71). -/

namespace Sys2Proof.Machine

/-! ## Lines at another position and another time -/

/-- `s` at line `u` of its phase, `n` steps of the host later. -/
def State.elapse (u n : Nat) (s : State) : State := { s with upc := u, done := false, env := s.env.skipHost n }

@[simp] theorem State.elapse_ph (u n : Nat) (s : State) : (s.elapse u n).ph = s.ph := rfl
@[simp] theorem State.elapse_upc (u n : Nat) (s : State) : (s.elapse u n).upc = u := rfl
@[simp] theorem State.elapse_env (u n : Nat) (s : State) : (s.elapse u n).env = s.env.skipHost n := rfl
@[simp] theorem State.elapse_program (u n : Nat) (s : State) : (s.elapse u n).program = s.program := rfl

theorem State.elapse_elapse (u v m n : Nat) (s : State) : (s.elapse u m).elapse v n = s.elapse v (m + n) := by
  simp [State.elapse, Env.skipHost]

/-- A line neither reads nor writes the position and the host's levels. -/
theorem lineEffect_elapse (l : MicroLine) (u n : Nat) (s : State) :
    lineEffect l (s.elapse u n) = mapNext (State.elapse u n) (lineEffect l s) := by
  cases l with
  | mode ln m w => simp only [lineEffect, mapNext, RegWrite.apply_eq]; rfl
  | drive ln v w => simp only [lineEffect, mapNext, RegWrite.apply_eq]; rfl
  | sample dest =>
    by_cases hd : s.pads.dataMode = .out
    · rw [lineEffect_sample_driven dest hd, lineEffect_sample_driven (s := s.elapse u n) dest hd]; rfl
    · rw [lineEffect_sample_released dest hd, lineEffect_sample_released (s := s.elapse u n) dest hd]
      simp only [mapNext, SampleUse.apply_eq]; rfl
  | now dest => simp only [lineEffect, mapNext, ClockUse.apply_eq]; rfl

theorem lineEffect_elapse_next {l : MicroLine} {s t : State} (h : lineEffect l s = .next t) (u n : Nat) :
    lineEffect l (s.elapse u n) = .next (t.elapse u n) := by
  rw [lineEffect_elapse, h]; rfl

theorem runLines_cons_of_next {l : MicroLine} {ls : List MicroLine} {s t : State} (h : lineEffect l s = .next t) :
    runLines (l :: ls) s = runLines ls t := by
  simp only [runLines, h]

theorem runLines_cons_eq_next {l : MicroLine} {ls : List MicroLine} {s t : State}
    (h : runLines (l :: ls) s = .next t) : ∃ w, lineEffect l s = .next w ∧ runLines ls w = .next t := by
  cases hw : lineEffect l s with
  | next w => exact ⟨w, rfl, by rwa [runLines_cons_of_next hw] at h⟩
  | fault e => simp [runLines, hw] at h
  | refused e => simp [runLines, hw] at h

theorem runLines_elapse {ls : List MicroLine} {s t : State} (h : runLines ls s = .next t) (u n : Nat) :
    runLines ls (s.elapse u n) = .next (t.elapse u n) := by
  induction ls generalizing s with
  | nil => obtain rfl := Host.Outcome.next.inj h; rfl
  | cons l ls ih =>
    obtain ⟨w, hw, hrest⟩ := runLines_cons_eq_next h
    rw [runLines_cons_of_next (lineEffect_elapse_next hw u n)]
    exact ih hrest

/-- The end of a phase does not read the position. -/
theorem endPhase_upc (u : Nat) (s : State) : endPhase { s with upc := u } = endPhase s := by
  rw [endPhase_eq, endPhase_eq]; rfl

theorem noReset_of_after {m n l c : Nat} {evs : List Event} {s t : State} (henv : t.env = s.env.after m l c evs)
    (h : NoReset (m + n) s) : NoReset n t := by
  intro k hk
  rw [henv, Env.hostAt_after]
  exact h _ (by omega)

/-! ## What a program does to the environment -/

/-- How many samples the lines take. -/
def sampleCount : List MicroLine → Nat
  | [] => 0
  | .mode _ _ _ :: ls => sampleCount ls
  | .drive _ _ _ :: ls => sampleCount ls
  | .sample _ :: ls => 1 + sampleCount ls
  | .now _ :: ls => sampleCount ls

/-- How many clock reads the lines make. -/
def readCount : List MicroLine → Nat
  | [] => 0
  | .mode _ _ _ :: ls => readCount ls
  | .drive _ _ _ :: ls => readCount ls
  | .sample _ :: ls => readCount ls
  | .now _ :: ls => 1 + readCount ls

/-- The events of the lines (R80 to R83) when the answers to come are `b 0, b 1, …` and `c 0, c 1, …`. -/
def lineEvents (b : Nat → Level) (c : Nat → Clk) : List MicroLine → List Event
  | [] => []
  | .mode ln m _ :: ls => .mode ln m :: lineEvents b c ls
  | .drive ln v _ :: ls => .drive ln v :: lineEvents b c ls
  | .sample _ :: ls => .sample (b 0) :: lineEvents (fun k => b (1 + k)) c ls
  | .now _ :: ls => .clock (c 0) :: lineEvents b (fun k => c (1 + k)) ls

theorem lineEffect_env {l : MicroLine} {s t : State} (h : lineEffect l s = .next t) :
    t.env = s.env.after 0 (sampleCount [l]) (readCount [l]) (lineEvents s.env.lineAt s.env.clockAt [l]) := by
  obtain ⟨ln, m, w, rfl, rfl⟩ | ⟨ln, v, w, rfl, rfl⟩ | ⟨u, rfl, -, rfl⟩ | ⟨u, rfl, rfl⟩ := lineEffect_cases h
  · rw [RegWrite.apply_frame]; exact Env.record_eq_after ..
  · rw [RegWrite.apply_frame]; exact Env.record_eq_after ..
  · rw [SampleUse.apply_frame, lineSample, Env.record_eq_after, Env.skipLine_eq_after, Env.after_after]; rfl
  · rw [ClockUse.apply_frame, readClock, Env.record_eq_after, Env.skipClock_eq_after, Env.after_after]; rfl

theorem lineEffect_hostAt {l : MicroLine} {s t : State} (h : lineEffect l s = .next t) (k : Nat) :
    t.env.hostAt k = s.env.hostAt k := by
  rw [lineEffect_env h, Env.hostAt_after, Nat.zero_add]

theorem sampleCount_cons (l : MicroLine) (ls : List MicroLine) :
    sampleCount (l :: ls) = sampleCount [l] + sampleCount ls := by
  cases l <;> simp [sampleCount]

theorem readCount_cons (l : MicroLine) (ls : List MicroLine) : readCount (l :: ls) = readCount [l] + readCount ls := by
  cases l <;> simp [readCount]

theorem lineEvents_cons (b : Nat → Level) (c : Nat → Clk) (l : MicroLine) (ls : List MicroLine) :
    lineEvents b c (l :: ls) = lineEvents b c [l] ++
      lineEvents (fun k => b (sampleCount [l] + k)) (fun k => c (readCount [l] + k)) ls := by
  cases l <;> simp [lineEvents, sampleCount, readCount]

/-- The lines take their answers in order and append their events; the host's levels they leave. -/
theorem runLines_env {ls : List MicroLine} {s t : State} (h : runLines ls s = .next t) :
    t.env = s.env.after 0 (sampleCount ls) (readCount ls) (lineEvents s.env.lineAt s.env.clockAt ls) := by
  induction ls generalizing s with
  | nil => obtain rfl := Host.Outcome.next.inj h; exact (Env.after_nothing _).symm
  | cons l ls ih =>
    obtain ⟨w, hw, hrest⟩ := runLines_cons_eq_next h
    rw [ih hrest, lineEffect_env hw, Env.after_after, Env.lineAt_after_fun, Env.clockAt_after_fun,
      sampleCount_cons l ls, readCount_cons l ls, lineEvents_cons _ _ l ls]

theorem runLines_frame {ls : List MicroLine} {s t : State} (h : runLines ls s = .next t) :
    t.seq = s.seq ∧ t.ph = s.ph ∧ t.code = s.code ∧ t.pullEn = s.pullEn ∧ t.params = s.params := by
  induction ls generalizing s with
  | nil => obtain rfl := Host.Outcome.next.inj h; simp
  | cons l ls ih =>
    obtain ⟨w, hw, hrest⟩ := runLines_cons_eq_next h
    obtain ⟨hseq, hph, -, hcode, -, -, hpull, hparams⟩ := lineEffect_frame hw
    rw [← hseq, ← hph, ← hcode, ← hpull, ← hparams]
    exact ih hrest

/-! ## No line of a micro-program samples a driven line (R29) -/

theorem State.program_fits (s : State) : programFits (inMode s.pullEn) s.ph s.program = true := by
  unfold State.program
  cases s.ph with
  | idle => rfl
  | sc => exact scProgram_fits ..
  | wr => exact wrProgram_fits _
  | rw => exact rwProgram_fits _
  | et => exact etProgram_fits _

/-- A line that stands at position `u` keeps DATA released where the phase samples it (R29). -/
theorem lineEffect_keeps_released {im : PadMode} {ph : Phase} {u : Nat} {l : MicroLine} {s t : State} (him : im ≠ .out)
    (hf : positionFollows im ph u l = true) (hs : dataInAt ph u = true → s.pads.dataMode ≠ .out)
    (h : lineEffect l s = .next t) : dataInAt ph (u + 1) = true → t.pads.dataMode ≠ .out := by
  intro hin
  obtain ⟨hmode, hdrive, hsample, hnow⟩ := lineEffect_pads h
  cases l with
  | mode ln m w =>
    rw [hmode _ _ _ rfl]
    cases ln <;> simp_all [positionFollows]
  | drive ln v w => rw [hdrive _ _ _ rfl]; cases ln <;> simp_all [positionFollows]
  | sample dest => rw [hsample _ rfl]; simp_all [positionFollows]
  | now dest => rw [hnow _ rfl]; simp_all [positionFollows]

/-- A line at a position where it fits answers. -/
theorem lineEffect_answers_of_fits {ph : Phase} {u : Nat} {l : MicroLine} {s : State} (hf : lineFits ph u l = true)
    (hs : dataInAt ph u = true → s.pads.dataMode ≠ .out) : ∃ t, lineEffect l s = .next t := by
  cases l with
  | mode ln m w => exact ⟨_, rfl⟩
  | drive ln v w => exact ⟨_, rfl⟩
  | sample dest => exact ⟨_, lineEffect_sample_released dest (hs hf)⟩
  | now dest => exact ⟨_, rfl⟩

/-- The rest `ls` of a program that fits its phase runs without a fault. -/
theorem runLines_answers {im : PadMode} {ph : Phase} {pre ls : List MicroLine} {s : State} (him : im ≠ .out)
    (hf : programFits im ph (pre ++ ls) = true) (hs : dataInAt ph pre.length = true → s.pads.dataMode ≠ .out) :
    ∃ t, runLines ls s = .next t := by
  induction ls generalizing pre s with
  | nil => exact ⟨s, rfl⟩
  | cons l ls ih =>
    obtain ⟨hfits, hfollows, -⟩ := programFits_line (u := pre.length) (l := l) hf (by simp)
    obtain ⟨w, hw⟩ := lineEffect_answers_of_fits hfits hs
    rw [runLines_cons_of_next hw]
    exact ih (pre := pre ++ [l]) (by simpa using hf)
      (by simpa using lineEffect_keeps_released him hfollows hs hw)

/-! ## Step by step and in one go (R84) -/

/-- A step of a phase other than WR performs its line and advances (R18). -/
theorem step_line {l : MicroLine} {s w : State} (hb : s.ph ≠ .idle) (hwr : s.ph ≠ .wr)
    (hr : (s.env.hostAt 0).rst = false) (hl : s.currentLine = some l) (hw : lineEffect l s = .next w) :
    step s = .next (movePosition .advance (w.elapse s.upc 1)) := by
  obtain ⟨-, -, hpoll, -, hdeadline, -⟩ := currentLine_uses hl
  have hflow : lineFlow l s = .advance :=
    lineFlow_eq_advance s (fun h => hwr (hpoll.mp h).1) (fun h => hwr (hdeadline.mp h).1)
  rw [step_busy hr hb, microStep_next hl (lineEffect_elapse_next hw s.upc 1), hflow]

theorem lineEffect_program {l : MicroLine} {s t : State} (h : lineEffect l s = .next t) : t.program = s.program := by
  obtain ⟨-, hph, -, hcode, -, -, hpull, -⟩ := lineEffect_frame h
  simp only [State.program, hph, hcode, hpull]

/-- The rest `ls` of a phase other than WR, run step by step from its first line, is `ls` run in one go. -/
theorem steps_runLines {pre ls : List MicroLine} {s t : State} (hb : s.ph ≠ .idle) (hwr : s.ph ≠ .wr)
    (hp : s.program = pre ++ ls) (hu : s.upc = pre.length) (hne : ls ≠ []) (hr : NoReset ls.length s)
    (h : runLines ls s = .next t) : steps ls.length s = .next (endPhase (t.elapse 0 ls.length)) := by
  induction ls generalizing pre s t with
  | nil => contradiction
  | cons l rest ih =>
    obtain ⟨w, hw, hrest⟩ := runLines_cons_eq_next h
    have hl : s.currentLine = some l := by simp [State.currentLine, hp, hu]
    have hprog := lineEffect_program hw
    obtain ⟨-, hph, -⟩ := lineEffect_frame hw
    have hstep := step_line hb hwr (hr 0 (by simp)) hl hw
    rw [List.length_cons, steps_succ_of_step hstep]
    cases rest with
    | nil =>
      obtain rfl := Host.Outcome.next.inj hrest
      rw [movePosition_last (by simp [hprog, hp, hu]), ← endPhase_upc 0]
      rfl
    | cons l' rest =>
      have hnext : movePosition .advance (w.elapse s.upc 1) = w.elapse (s.upc + 1) 1 :=
        movePosition_advance (by simp [hprog, hp, hu])
      have hreset : NoReset (l' :: rest).length (w.elapse (s.upc + 1) 1) := fun k hk => by
        rw [State.elapse_env, Env.hostAt_skipHost, lineEffect_hostAt hw]
        exact hr _ (by rw [List.length_cons (a := l)]; omega)
      rw [hnext, ih (pre := pre ++ [l]) (hph ▸ hb) (hph ▸ hwr) (by simp [hprog, hp]) (by simp [hu]) (by simp) hreset
        (runLines_elapse hrest _ _), State.elapse_elapse, Nat.add_comm]

theorem phaseLength_pos (p : Phase) : 0 < phaseLength p := by cases p <;> decide

/-- R84: a phase other than WR, from its first line, is its micro-program run in one go, whatever the pads are. -/
theorem steps_phase {s : State} (hb : s.ph ≠ .idle) (hwr : s.ph ≠ .wr) (hu : s.upc = 0)
    (hr : NoReset (phaseLength s.ph) s) : ∃ t, runLines s.program s = .next t ∧
      steps (phaseLength s.ph) s = .next (endPhase (t.elapse 0 (phaseLength s.ph))) := by
  have hlen := program_length hb
  have hne : s.program ≠ [] := List.ne_nil_of_length_pos (hlen ▸ phaseLength_pos s.ph)
  obtain ⟨t, ht⟩ := runLines_answers (pre := []) (s := s) (inMode_ne_out s.pullEn) s.program_fits
    (by cases s.ph <;> simp [dataInAt])
  rw [← hlen] at hr ⊢
  exact ⟨t, ht, steps_runLines (pre := []) hb hwr rfl hu hne hr ht⟩

/-! ## The micro-programs make the spec's frames (R67 to R71) -/

theorem lineEvents_scProgram (code : Byte) (im : PadMode) (b : Nat → Level) (c : Nat → Clk) :
    lineEvents b c (scProgram code im) = wireCommand code im (b 0) (b 1) := rfl

theorem lineEvents_rwProgram (im : PadMode) (b : Nat → Level) (c : Nat → Clk) :
    lineEvents b c (rwProgram im) = wireData im b := rfl

theorem lineEvents_etProgram (b : Nat → Level) (c : Nat → Clk) : lineEvents b c etProgram = wireEnd := rfl

end Sys2Proof.Machine
end

section
/-! PROOFS. The phase WR (spec/41_protocol_ops.md R102, R103): a rule for each of its lines, and from them the poll as a
whole, for any number of iterations and either end. -/

namespace Sys2Proof.Machine

theorem State.tick_eq (s : State) : s.tick = { s with done := false, env := s.env.after 1 0 0 [] } := by
  rw [← Env.skipHost_eq_after]; rfl

theorem lineMode_eq (l : Line) (m : PadMode) (s : State) :
    lineMode l m s = { s with pads := s.pads.setMode l m, env := s.env.after 0 0 0 [.mode l m] } := by
  rw [← Env.record_eq_after]; rfl

theorem lineSample_eq (s : State) :
    lineSample s = { s with env := s.env.after 0 1 0 [.sample (s.env.lineAt 0)] } := by
  rw [lineSample, Env.record_eq_after, Env.skipLine_eq_after, Env.after_after]; rfl

theorem readClock_eq (s : State) :
    readClock s = { s with env := s.env.after 0 0 1 [.clock (s.env.clockAt 0)] } := by
  rw [readClock, Env.record_eq_after, Env.skipClock_eq_after, Env.after_after]; rfl

/-- The line at a position of WR. -/
theorem currentLine_wr {s : State} (h : s.ph = .wr) : s.currentLine = (wrProgram (inMode s.pullEn))[s.upc]? := by
  rw [State.currentLine, State.program, h]

theorem step_wr {s t : State} {l : MicroLine} (hph : s.ph = .wr) (hr : (s.env.hostAt 0).rst = false)
    (hl : (wrProgram (inMode s.pullEn))[s.upc]? = some l) (ht : lineEffect l s.tick = .next t) :
    step s = .next (movePosition (lineFlow l s) t) :=
  (step_busy hr (by simp [hph])).trans (microStep_next ((currentLine_wr hph).trans hl) ht)

theorem step_wr_advance {s t : State} {l : MicroLine} (hph : s.ph = .wr) (hu : s.upc < 3)
    (hr : (s.env.hostAt 0).rst = false) (hl : (wrProgram (inMode s.pullEn))[s.upc]? = some l)
    (ht : lineEffect l s.tick = .next t) (hflow : lineFlow l s = .advance) :
    step s = .next { t with upc := s.upc + 1 } := by
  obtain ⟨-, hph', hupc, -⟩ := lineEffect_frame ht
  rw [State.tick_ph, hph] at hph'
  rw [State.tick_upc] at hupc
  have hlast : t.upc + 1 ≠ t.program.length := by
    rw [program_length (by simp [hph']), hph', hupc, phaseLength]
    omega
  rw [step_wr hph hr hl ht, hflow, movePosition_advance hlast, hupc]

/-- WR step 0. -/
theorem step_wr_mode {s : State} (hph : s.ph = .wr) (hu : s.upc = 0) (hr : (s.env.hostAt 0).rst = false) :
    step s = .next { s with
      upc := 1, pads := s.pads.setMode .data (inMode s.pullEn), done := false,
      env := s.env.after 1 0 0 [.mode .data (inMode s.pullEn)] } := by
  rw [step_wr_advance (l := .mode .data (inMode s.pullEn) .nothing) hph (by omega) hr (by rw [hu]; rfl) rfl rfl]
  simp [RegWrite.apply, lineMode_eq, State.tick_eq, Env.after_after, hu]

/-- WR step 1: the start time (R102). -/
theorem step_wr_start {s : State} (hph : s.ph = .wr) (hu : s.upc = 1) (hr : (s.env.hostAt 0).rst = false) :
    step s = .next { s with
      upc := 2, t0 := s.env.clockAt 0, done := false, env := s.env.after 1 0 1 [.clock (s.env.clockAt 0)] } := by
  rw [step_wr_advance (l := .now .start) hph (by omega) hr (by rw [hu]; rfl) rfl rfl]
  simp [ClockUse.apply, readClock_eq, State.tick_eq, Env.after_after, hu]

/-- WR step 2 on a high sample: not ready (R103). -/
theorem step_wr_waiting {s : State} (hph : s.ph = .wr) (hu : s.upc = 2) (hd : s.pads.dataMode ≠ .out)
    (hr : (s.env.hostAt 0).rst = false) (hb : s.env.lineAt 0 = true) :
    step s = .next { s with upc := 3, done := false, env := s.env.after 1 1 0 [.sample true] } := by
  rw [step_wr_advance (l := .sample .poll) hph (by omega) hr (by rw [hu]; rfl)
    (lineEffect_sample_released .poll hd) (lineFlow_poll_waiting hb)]
  simp [SampleUse.apply_eq, lineSample_eq, State.tick_eq, Env.after_after, hu, hb]

/-- WR step 2 on a low sample: the poll ends as ready (R103). -/
theorem step_wr_ready {s : State} (hph : s.ph = .wr) (hu : s.upc = 2) (hd : s.pads.dataMode ≠ .out)
    (hr : (s.env.hostAt 0).rst = false) (hb : s.env.lineAt 0 = false) :
    step s = .next (endPhase { s with
      tmo := false, done := false, env := s.env.after 1 1 0 [.sample false] }) := by
  rw [step_wr (l := .sample .poll) hph hr (by rw [hu]; rfl) (lineEffect_sample_released .poll hd),
    lineFlow_poll_ready hb, movePosition]
  simp [SampleUse.apply_eq, lineSample_eq, State.tick_eq, Env.after_after, hb]

/-- WR step 3 before the deadline: back to the sample (R102). -/
theorem step_wr_ahead {s : State} (hph : s.ph = .wr) (hu : s.upc = 3) (hr : (s.env.hostAt 0).rst = false)
    (ht : (s.env.clockAt 0 - s.t0).toNat < s.params.timeoutMs.toNat) :
    step s = .next { s with upc := 2, done := false, env := s.env.after 1 0 1 [.clock (s.env.clockAt 0)] } := by
  rw [step_wr (l := .now .deadline) hph hr (by rw [hu]; rfl) rfl, lineFlow_deadline_ahead ht, movePosition]
  simp [ClockUse.apply_eq, readClock_eq, State.tick_eq, Env.after_after, (deadlinePassed_eq_false ..).mpr ht]

/-- WR step 3 at the deadline: the poll ends as timed out (R102). -/
theorem step_wr_passed {s : State} (hph : s.ph = .wr) (hu : s.upc = 3) (hr : (s.env.hostAt 0).rst = false)
    (ht : s.params.timeoutMs.toNat ≤ (s.env.clockAt 0 - s.t0).toNat) :
    step s = .next (endPhase { s with
      tmo := true, done := false, env := s.env.after 1 0 1 [.clock (s.env.clockAt 0)] }) := by
  rw [step_wr (l := .now .deadline) hph hr (by rw [hu]; rfl) rfl, lineFlow_deadline_passed ht, movePosition]
  simp [ClockUse.apply_eq, readClock_eq, State.tick_eq, Env.after_after, (deadlinePassed_iff ..).mpr ht]

/-! ## The poll as a whole (R102, R103) -/

theorem steps_two {s t u : State} (h₁ : step s = .next t) (h₂ : step t = .next u) : steps 2 s = .next u :=
  (steps_succ_of_step h₁).trans (steps_succ_of_step h₂)

/-- One iteration of the poll that finds neither end. -/
theorem steps_poll_iteration {s : State} (hph : s.ph = .wr) (hu : s.upc = 2) (hd : s.pads.dataMode ≠ .out)
    (hr : NoReset 2 s) (hb : s.env.lineAt 0 = true)
    (ht : (s.env.clockAt 0 - s.t0).toNat < s.params.timeoutMs.toNat) :
    steps 2 s = .next { s with
      done := false, env := s.env.after 2 1 1 [.sample true, .clock (s.env.clockAt 0)] } := by
  refine (steps_two (step_wr_waiting hph hu hd (hr 0 (by decide)) hb) (step_wr_ahead hph rfl ?_ ?_)).trans ?_
  · simpa using hr 1 (by decide)
  · simpa using ht
  · simp [Env.after_after, hu]

/-- `j` whole iterations of the poll that find neither end. -/
theorem steps_poll_iterations {j : Nat} {s : State} (hph : s.ph = .wr) (hu : s.upc = 2) (hd : s.pads.dataMode ≠ .out)
    (hdone : s.done = false) (hr : NoReset (2 * j) s)
    (hwait : ∀ i, i < j → s.env.lineAt i = true ∧ (s.env.clockAt i - s.t0).toNat < s.params.timeoutMs.toNat) :
    steps (2 * j) s = .next { s with
      env := s.env.after (2 * j) j j ((List.range j).flatMap fun i => [.sample true, .clock (s.env.clockAt i)]) } := by
  induction j with
  | zero => simp [steps, Env.after_nothing]
  | succ j ih =>
    have hiters := ih (fun k hk => hr k (by omega)) (fun i hi => hwait i (by omega))
    obtain ⟨hb, ht⟩ := hwait j (by omega)
    refine (steps_add_of_steps hiters).trans (Eq.trans (steps_poll_iteration ?_ ?_ ?_ ?_ ?_ ?_) ?_)
    · exact hph
    · exact hu
    · exact hd
    · exact noReset_of_after rfl hr
    · simpa using hb
    · simpa using ht
    · simp [Env.after_after, Nat.mul_succ, List.range_succ, hdone]

/-- The last iteration of the poll, to either end. -/
theorem steps_poll_end {timedOut : Bool} {s : State} (hph : s.ph = .wr) (hu : s.upc = 2)
    (hd : s.pads.dataMode ≠ .out) (hr : NoReset (if timedOut then 2 else 1) s) (hb : s.env.lineAt 0 = timedOut)
    (ht : timedOut = true → s.params.timeoutMs.toNat ≤ (s.env.clockAt 0 - s.t0).toNat) :
    steps (if timedOut then 2 else 1) s = .next (endPhase { s with
      tmo := timedOut, done := false,
      env := s.env.after (if timedOut then 2 else 1) 1 (if timedOut then 1 else 0)
        (if timedOut then [.sample true, .clock (s.env.clockAt 0)] else [.sample false]) }) := by
  cases timedOut with
  | false => exact steps_succ_of_step (step_wr_ready hph hu hd (hr 0 (by decide)) hb)
  | true =>
    refine (steps_two (step_wr_waiting hph hu hd (hr 0 (by decide)) hb) (step_wr_passed hph rfl ?_ ?_)).trans ?_
    · simpa using hr 1 (by decide)
    · simpa using ht rfl
    · rw [← endPhase_upc 2]
      simp [Env.after_after, hu]

/-- The loop of the poll: `j` whole iterations and the last one. -/
theorem steps_poll_loop {j : Nat} {timedOut : Bool} {s : State} (hph : s.ph = .wr) (hu : s.upc = 2)
    (hd : s.pads.dataMode ≠ .out) (hdone : s.done = false) (hr : NoReset (2 * j + if timedOut then 2 else 1) s)
    (hwait : ∀ i, i < j → s.env.lineAt i = true ∧ (s.env.clockAt i - s.t0).toNat < s.params.timeoutMs.toNat)
    (hlast : s.env.lineAt j = timedOut)
    (hpassed : timedOut = true → s.params.timeoutMs.toNat ≤ (s.env.clockAt j - s.t0).toNat) :
    steps (2 * j + if timedOut then 2 else 1) s = .next (endPhase { s with
      tmo := timedOut,
      env := s.env.after (2 * j + if timedOut then 2 else 1) (j + 1) (j + if timedOut then 1 else 0)
        (((List.range j).flatMap fun i => [.sample true, .clock (s.env.clockAt i)]) ++
          if timedOut then [.sample true, .clock (s.env.clockAt j)] else [.sample false]) }) := by
  have hiters := steps_poll_iterations hph hu hd hdone (fun k hk => hr k (by omega)) hwait
  refine (steps_add_of_steps hiters).trans (Eq.trans (steps_poll_end ?_ ?_ ?_ ?_ ?_ ?_) ?_)
  · exact hph
  · exact hu
  · exact hd
  · exact noReset_of_after rfl hr
  · simpa using hlast
  · simpa using hpassed
  · simp [Env.after_after, hdone]

/-- The two lines before the poll's loop: the input mode and the start time (R102). -/
theorem steps_poll_start {s : State} (hph : s.ph = .wr) (hu : s.upc = 0) (hr : NoReset 2 s) :
    steps 2 s = .next { s with
      upc := 2, t0 := s.env.clockAt 0, pads := s.pads.setMode .data (inMode s.pullEn), done := false,
      env := s.env.after 2 0 1 [.mode .data (inMode s.pullEn), .clock (s.env.clockAt 0)] } := by
  refine (steps_two (step_wr_mode hph hu (hr 0 (by decide))) (step_wr_start hph rfl ?_)).trans ?_
  · simpa using hr 1 (by decide)
  · simp [Env.after_after]

/-- WR from its first line, for a poll that ends after `j` whole iterations (R102, R103). -/
theorem steps_wr {j : Nat} {timedOut : Bool} {s : State} (hph : s.ph = .wr) (hu : s.upc = 0)
    (hr : NoReset (pollLength j timedOut) s)
    (hends : PollEnds s.params.timeoutMs s.env.lineAt s.env.clockAt j timedOut) :
    steps (pollLength j timedOut) s = .next (endPhase { s with
      t0 := s.env.clockAt 0, tmo := timedOut, pads := s.pads.setMode .data (inMode s.pullEn), done := false,
      env := s.env.after (pollLength j timedOut) (j + 1) (pollReads j timedOut)
        (wirePoll (inMode s.pullEn) j timedOut s.env.clockAt) }) := by
  obtain ⟨hwait, hlast, hpassed⟩ := hends
  rw [pollLength, Nat.add_assoc] at hr ⊢
  have hstart := steps_poll_start hph hu fun k hk => hr k (by omega)
  refine (steps_add_of_steps hstart).trans (Eq.trans (steps_poll_loop ?_ ?_ ?_ ?_ ?_ ?_ ?_ ?_) ?_)
  · exact hph
  · rfl
  · simp
  · rfl
  · exact noReset_of_after rfl hr
  · simpa [Nat.add_comm 1] using hwait
  · simpa using hlast
  · simpa [Nat.add_comm 1] using hpassed
  · rw [← endPhase_upc 0]
    simp [Env.after_after, wirePoll, pollReads, Nat.add_comm 1, Nat.add_assoc, hu]

end Sys2Proof.Machine
end

section
/-! PROOFS. Runs from one phase to the next (spec/42_sequencer_ops.md R124), a whole measurement on the wire and its 29
clock pulses (spec/30_encoding.md R72). -/

namespace Sys2Proof.Machine

/-! ## Runs and their events -/

/-- `n` steps lead from `s` to `t`, with `l` samples, `c` clock reads and the events `evs`. -/
structure RunsTo (n l c : Nat) (evs : List Event) (s t : State) : Prop where
  run : steps n s = .next t
  env : t.env = s.env.after n l c evs

theorem RunsTo.trans {n l c n' l' c' : Nat} {evs evs' : List Event} {s t u : State} (h : RunsTo n l c evs s t)
    (h' : RunsTo n' l' c' evs' t u) : RunsTo (n + n') (l + l') (c + c') (evs ++ evs') s u where
  run := (steps_add_of_steps h.run).trans h'.run
  env := by rw [h'.env, h.env, Env.after_after]

/-- A run from the first line of a phase to the first line of the next, or to idle (R124). -/
structure PhaseRun (n l c : Nat) (evs : List Event) (s t : State) : Prop extends RunsTo n l c evs s t where
  ph : t.ph = nextPhase s.seq s.ph
  upc : t.upc = 0
  seq : t.ph ≠ .idle → t.seq = s.seq
  pullEn : t.pullEn = s.pullEn
  params : t.params = s.params

theorem endPhase_ph (s : State) : (endPhase s).ph = nextPhase s.seq s.ph := by
  rw [endPhase_eq]; split <;> simp [*]

theorem endPhase_seq {s : State} (h : (endPhase s).ph ≠ .idle) : (endPhase s).seq = s.seq := by
  rw [endPhase_enters (endPhase_ph s ▸ h), enterPhase_seq]

/-- A run up to the end of its phase. -/
theorem PhaseRun.of_endPhase {n l c : Nat} {evs : List Event} {s t : State} (hrun : steps n s = .next (endPhase t))
    (henv : t.env = s.env.after n l c evs) (hseq : t.seq = s.seq) (hph : t.ph = s.ph) (hpull : t.pullEn = s.pullEn)
    (hparams : t.params = s.params) : PhaseRun n l c evs s (endPhase t) where
  run := hrun
  env := by rw [endPhase_frame]; exact henv
  ph := by rw [endPhase_ph, hseq, hph]
  upc := by rw [endPhase_frame]
  seq h := (endPhase_seq h).trans hseq
  pullEn := by rw [endPhase_frame]; exact hpull
  params := by rw [endPhase_frame]; exact hparams

/-! ## The four phases on the wire (R67 to R71) -/

/-- A phase other than WR puts the events of its program on the wire. -/
theorem phaseRun_program {ls : List MicroLine} {s : State} (hp : s.program = ls) (hb : s.ph ≠ .idle)
    (hwr : s.ph ≠ .wr) (hu : s.upc = 0) (hr : NoReset ls.length s) :
    ∃ t, PhaseRun ls.length (sampleCount ls) (readCount ls) (lineEvents s.env.lineAt s.env.clockAt ls) s t := by
  subst hp
  rw [program_length hb] at hr ⊢
  obtain ⟨t, hlines, hsteps⟩ := steps_phase hb hwr hu hr
  obtain ⟨hseq, hph, -, hpull, hparams⟩ := runLines_frame hlines
  refine ⟨_, .of_endPhase hsteps ?_ hseq hph hpull hparams⟩
  rw [State.elapse_env, runLines_env hlines, Env.skipHost_eq_after, Env.after_after]
  simp

theorem phaseRun_sc {s : State} (hph : s.ph = .sc) (hu : s.upc = 0) (hr : NoReset 38 s) :
    ∃ t, PhaseRun 38 2 0 (wireCommand s.code (inMode s.pullEn) (s.env.lineAt 0) (s.env.lineAt 1)) s t :=
  lineEvents_scProgram s.code (inMode s.pullEn) s.env.lineAt s.env.clockAt ▸
    phaseRun_program (ls := scProgram s.code (inMode s.pullEn)) (by rw [State.program, hph]) (by simp [hph])
      (by simp [hph]) hu hr

theorem phaseRun_wr {j : Nat} {timedOut : Bool} {s : State} (hph : s.ph = .wr) (hu : s.upc = 0)
    (hr : NoReset (pollLength j timedOut) s)
    (hends : PollEnds s.params.timeoutMs s.env.lineAt s.env.clockAt j timedOut) :
    ∃ t, PhaseRun (pollLength j timedOut) (j + 1) (pollReads j timedOut)
      (wirePoll (inMode s.pullEn) j timedOut s.env.clockAt) s t :=
  ⟨_, .of_endPhase (steps_wr hph hu hr hends) rfl rfl rfl rfl rfl⟩

theorem phaseRun_rw {s : State} (hph : s.ph = .rw) (hu : s.upc = 0) (hr : NoReset 56 s) :
    ∃ t, PhaseRun 56 16 0 (wireData (inMode s.pullEn) s.env.lineAt) s t :=
  lineEvents_rwProgram (inMode s.pullEn) s.env.lineAt s.env.clockAt ▸
    phaseRun_program (ls := rwProgram (inMode s.pullEn)) (by rw [State.program, hph]) (by simp [hph])
      (by simp [hph]) hu hr

theorem phaseRun_et {s : State} (hph : s.ph = .et) (hu : s.upc = 0) (hr : NoReset 5 s) :
    ∃ t, PhaseRun 5 0 0 wireEnd s t :=
  lineEvents_etProgram s.env.lineAt s.env.clockAt ▸
    phaseRun_program (ls := etProgram) (by rw [State.program, hph]) (by simp [hph])
      (by simp [hph]) hu hr

/-! ## A measurement (R72, R127, R128) -/

theorem nextPhase_of_seq {q : Seq} (h : q ≠ .none) :
    nextPhase q .sc = .wr ∧ nextPhase q .wr = .rw ∧ nextPhase q .rw = .et := by
  cases q with
  | none => contradiction
  | temp => exact ⟨rfl, rfl, rfl⟩
  | humi => exact ⟨rfl, rfl, rfl⟩

/-- R72: the frames of a measurement on the wire, for the samples `b 0, b 1, …` and the clock answers `c 0, c 1, …`. -/
def wireMeasurement (code : Byte) (im : PadMode) (j : Nat) (timedOut : Bool) (b : Nat → Level) (c : Nat → Clk) :
    List Event :=
  wireCommand code im (b 0) (b 1) ++ wirePoll im j timedOut c ++ wireData im (fun k => b (3 + j + k)) ++ wireEnd

/-- The four phases of a sequencer operation follow each other with nothing between (R124). -/
theorem sequencer_runs {j : Nat} {timedOut : Bool} {s : State} (hseq : s.seq ≠ .none) (hph : s.ph = .sc)
    (hu : s.upc = 0) (hr : NoReset (99 + pollLength j timedOut) s)
    (hends : PollEnds s.params.timeoutMs (fun k => s.env.lineAt (2 + k)) s.env.clockAt j timedOut) :
    ∃ t, RunsTo (38 + pollLength j timedOut + 56 + 5) (2 + (j + 1) + 16) (pollReads j timedOut)
      (wireMeasurement s.code (inMode s.pullEn) j timedOut s.env.lineAt s.env.clockAt) s t := by
  obtain ⟨hwr, hrw, het⟩ := nextPhase_of_seq hseq
  obtain ⟨t₁, h₁⟩ := phaseRun_sc hph hu fun k hk => hr k (by omega)
  have hph₁ : t₁.ph = .wr := by rw [h₁.ph, hph, hwr]
  have hseq₁ : t₁.seq = s.seq := h₁.seq (by simp [hph₁])
  have hline₁ : t₁.env.lineAt = fun k => s.env.lineAt (2 + k) := by rw [h₁.env, Env.lineAt_after_fun]
  have hclock₁ : t₁.env.clockAt = s.env.clockAt := by simp [h₁.env, Env.clockAt_after_fun]
  obtain ⟨t₂, h₂⟩ := phaseRun_wr (j := j) (timedOut := timedOut) hph₁ h₁.upc
    (noReset_of_after h₁.env fun k hk => hr k (by omega)) (by rwa [h₁.params, hline₁, hclock₁])
  have h₁₂ := h₁.toRunsTo.trans h₂.toRunsTo
  have hph₂ : t₂.ph = .rw := by rw [h₂.ph, hseq₁, hph₁, hrw]
  have hseq₂ : t₂.seq = s.seq := (h₂.seq (by simp [hph₂])).trans hseq₁
  have hline₂ : t₂.env.lineAt = fun k => s.env.lineAt (3 + j + k) := by
    rw [h₁₂.env, Env.lineAt_after_fun, show 2 + (j + 1) = 3 + j by omega]
  obtain ⟨t₃, h₃⟩ := phaseRun_rw hph₂ h₂.upc (noReset_of_after h₁₂.env fun k hk => hr k (by omega))
  have h₁₃ := h₁₂.trans h₃.toRunsTo
  have hph₃ : t₃.ph = .et := by rw [h₃.ph, hseq₂, hph₂, het]
  obtain ⟨t₄, h₄⟩ := phaseRun_et hph₃ h₃.upc (noReset_of_after h₁₃.env fun k hk => hr k (by omega))
  refine ⟨t₄, ?_⟩
  simpa [wireMeasurement, hclock₁, hline₂, h₁.pullEn, h₂.pullEn] using h₁₃.trans h₄.toRunsTo

/-- The trace of MEAST and MEASH from an idle state (R72, R127, R128). -/
theorem measurement_trace {i : Instr} {j : Nat} {timedOut : Bool} {s : State} (hseq : acceptedSeq i ≠ .none)
    (hsc : acceptedPhase i = .sc) (hph : s.ph = .idle) (hr : NoReset (1 + (99 + pollLength j timedOut)) s)
    (hends : PollEnds s.params.timeoutMs (fun k => s.env.lineAt (2 + k)) s.env.clockAt j timedOut) :
    ∃ t, runOperation i (99 + pollLength j timedOut) s = .next t ∧ t.env.trace = s.env.trace ++
      wireMeasurement (acceptedCode i s) (inMode s.pullEn) j timedOut s.env.lineAt s.env.clockAt := by
  obtain ⟨t, ht⟩ := sequencer_runs (s := accept (acceptedSeq i) (acceptedPhase i) (acceptedCode i s) s) hseq hsc rfl
    (noReset_of_after (Env.skipHost_eq_after 1 s.env) hr) hends
  refine ⟨t, ?_, congrArg Env.trace ht.env⟩
  rw [runOperation, exec_idle i hph, show 99 + pollLength j timedOut = 38 + pollLength j timedOut + 56 + 5 by omega]
  exact ht.run

/-! ## The clock pulses (R72) -/

/-- Two in the start sequence, eight command bits and the acknowledgment slot. -/
theorem count_rises_wireCommand (c : Byte) (im : PadMode) (a₁ a₂ : Level) :
    (wireCommand c im a₁ a₂).count (evC true) = 11 := rfl

theorem count_rises_wirePoll (im : PadMode) (j : Nat) (timedOut : Bool) (c : Nat → Clk) :
    (wirePoll im j timedOut c).count (evC true) = 0 := by
  rw [List.count_eq_zero]
  cases timedOut <;> simp [wirePoll]

/-- Eight bits, the mid-frame acknowledgment and eight bits. -/
theorem count_rises_wireData (im : PadMode) (b : Nat → Level) : (wireData im b).count (evC true) = 17 := rfl

theorem count_rises_wireEnd : wireEnd.count (evC true) = 1 := rfl

theorem count_rises_wireMeasurement (code : Byte) (im : PadMode) (j : Nat) (timedOut : Bool) (b : Nat → Level)
    (c : Nat → Clk) : (wireMeasurement code im j timedOut b c).count (evC true) = 29 := by
  simp only [wireMeasurement, List.count_append, count_rises_wireCommand, count_rises_wirePoll, count_rises_wireData,
    count_rises_wireEnd]

/-- Settles O47: the rises in the frames of which the trace of either measurement is made. -/
theorem measurementMakesTwentyNineClockPulses : Obligations.MeasurementMakesTwentyNineClockPulses := by
  intro j timedOut s hph htrace hr hends
  obtain ⟨t, ht, ht'⟩ := measurement_trace (i := .meast) (by decide) rfl hph hr hends
  obtain ⟨u, hu, hu'⟩ := measurement_trace (i := .meash) (by decide) rfl hph hr hends
  rw [htrace, List.nil_append] at ht' hu'
  refine ⟨t, u, ht, ?_, hu, ?_⟩
  · rw [ht', count_rises_wireMeasurement]
  · rw [hu', count_rises_wireMeasurement]

end Sys2Proof.Machine
end

section
/-! PROOFS. The line primitives (spec/40_line_primitives.md): a rule for each kind of line in a run, from them the run of
each primitive (R85 to R92), the value that a shift-in returns (R89) and the loopback of a shift-out (R91). -/

namespace Sys2Proof.Machine

/-! ## The micro-operations (R80 to R83) -/

theorem lineDrive_eq (l : Line) (v : Level) (s : State) :
    lineDrive l v s = { s with pads := s.pads.setLatch l v, env := s.env.after 0 0 0 [.drive l v] } := by
  rw [← Env.record_eq_after]; rfl

/-- Settles O13: each line on its own, by the definitions of the two updates. -/
theorem modeAndDriveChangeOneField : Obligations.ModeAndDriveChangeOneField :=
  fun _ _ _ => ⟨rfl, rfl, rfl, rfl⟩

/-- Settles O14: what the environment is after any line, and all that each use does with its answer. -/
theorem sampleAndClockReadTakeNextAnswer : Obligations.SampleAndClockReadTakeNextAnswer := by
  refine ⟨fun s u hd => ?_, fun s u => ?_⟩
  · have hline := lineEffect_sample_released u hd
    refine ⟨_, hline, lineEffect_env hline, ?_, ?_, ?_⟩
    · rw [SampleUse.apply_frame]; rfl
    · rintro rfl; rfl
    · rintro rfl; rfl
  · have hline : lineEffect (.now u) s = .next (u.apply (s.env.clockAt 0) (readClock s)) := rfl
    refine ⟨_, hline, lineEffect_env hline, ?_, ?_⟩
    · rw [ClockUse.apply_frame]; rfl
    · rintro rfl; rfl

/-! ## A line at the head of a run (R84) -/

@[simp] theorem runLines_nil (s : State) : runLines [] s = .next s := rfl

@[simp] theorem runLines_mode (l : Line) (m : PadMode) (w : RegWrite) (ls : List MicroLine) (s : State) :
    runLines (.mode l m w :: ls) s =
      runLines ls (w.apply { s with pads := s.pads.setMode l m, env := s.env.after 0 0 0 [.mode l m] }) := by
  rw [← lineMode_eq]; rfl

@[simp] theorem runLines_drive (l : Line) (v : Level) (w : RegWrite) (ls : List MicroLine) (s : State) :
    runLines (.drive l v w :: ls) s =
      runLines ls (w.apply { s with pads := s.pads.setLatch l v, env := s.env.after 0 0 0 [.drive l v] }) := by
  rw [← lineDrive_eq]; rfl

@[simp] theorem runLines_sample (u : SampleUse) (ls : List MicroLine) {s : State} (hd : s.pads.dataMode ≠ .out) :
    runLines (.sample u :: ls) s =
      runLines ls (u.apply (s.env.lineAt 0) { s with env := s.env.after 0 1 0 [.sample (s.env.lineAt 0)] }) := by
  rw [runLines_cons_of_next (lineEffect_sample_released u hd), lineSample_eq]

@[simp] theorem RegWrite.apply_nothing (s : State) : RegWrite.nothing.apply s = s := rfl

/-! ## The fixed primitives (R85, R86, R88, R90, R92) -/

/-- R85, with the caller's register write beside the falling drive. -/
theorem runLines_pulseSck (w : RegWrite) (s : State) :
    runLines (pulseSck w) s = .next (w.apply { s with
      pads := { s.pads with sckLatch := false }, env := s.env.after 0 0 0 [evC true, evC false] }) := by
  simp [pulseSck, Env.after_after, Pads.setLatch]

/-- R92. -/
theorem runLines_bothOut (s : State) :
    runLines bothOut s = .next { s with
      pads := { s.pads with dataMode := .out, sckMode := .out },
      env := s.env.after 0 0 0 [.mode .data .out, .mode .sck .out] } := by
  simp [bothOut, Env.after_after, Pads.setMode]

/-- R86. -/
theorem runLines_startSeq (s : State) :
    runLines startSeq s = .next { s with
      pads := { s.pads with dataLatch := true, sckLatch := false }, env := s.env.after 0 0 0 wireStart } := by
  simp [startSeq, wireStart, Env.after_after, Pads.setLatch]

/-- R90. -/
theorem runLines_midAck (s : State) :
    runLines midAck s = .next { s with
      pads := { s.pads with dataMode := .out, dataLatch := false, sckLatch := false },
      env := s.env.after 0 0 0 wireMidAck } := by
  simp [midAck, wireMidAck, runLines_pulseSck, Env.after_after, Pads.setMode, Pads.setLatch]

/-- R88, for either input mode. -/
theorem runLines_ackRead {im : PadMode} (him : im ≠ .out) (s : State) :
    runLines (ackRead im) s = .next { s with
      ack1 := s.env.lineAt 0, ack2 := s.env.lineAt 1,
      pads := { s.pads with dataMode := im, sckLatch := false },
      env := s.env.after 0 2 0 (wireAck im (s.env.lineAt 0) (s.env.lineAt 1)) } := by
  simp [ackRead, wireAck, SampleUse.apply, State.recordAck1, State.recordAck2, Env.after_after, Pads.setMode,
    Pads.setLatch, him]

/-- Settles O17: the four runs. -/
theorem fixedPrimitivesProduceTheirFrames : Obligations.FixedPrimitivesProduceTheirFrames := fun s =>
  ⟨runLines_pulseSck .nothing s, runLines_bothOut s, runLines_startSeq s, runLines_midAck s⟩

/-- Settles O18: the configured input mode is never `OUT`. -/
theorem ackReadRecordsBothSamples : Obligations.AckReadRecordsBothSamples := fun s =>
  runLines_ackRead (inMode_ne_out s.pullEn) s

/-! ## The shift-in (R89) -/

/-- One bit of the shift-in. -/
theorem runLines_shiftInBit (w : RegWrite) {s : State} (hd : s.pads.dataMode ≠ .out) :
    runLines (shiftInBit w) s = .next (w.apply { s with
      acc := accumulate s.acc (s.env.lineAt 0), pads := { s.pads with sckLatch := false },
      env := s.env.after 0 1 0 [evC true, .sample (s.env.lineAt 0), evC false] }) := by
  simp [shiftInBit, SampleUse.apply, Env.after_after, Pads.setLatch, hd]

/-- The last bit apart, and with it the caller's register write. -/
theorem shiftInLines_succ (n : Nat) (w : RegWrite) :
    shiftInLines (n + 1) w = shiftInLines n .nothing ++ shiftInBit w := by
  induction n with
  | zero => rfl
  | succ n ih =>
    cases n with
    | zero => rfl
    | succ n => rw [shiftInLines, ih, shiftInLines, List.append_assoc]

theorem wireShiftIn_succ (n : Nat) (b : Nat → Level) :
    wireShiftIn (n + 1) b = wireShiftIn n b ++ [evC true, .sample (b n), evC false] := by
  simp [wireShiftIn, List.range_succ]

/-- The shift-in from `ACC` = 0, by induction on the number of bits: `ACC` holds the value of those sampled. -/
theorem runLines_shiftInLines (n : Nat) {s : State} (hacc : s.acc = 0x0000#16) (hd : s.pads.dataMode ≠ .out) :
    runLines (shiftInLines n .nothing) s = .next { s with
      acc := bitsWord n s.env.lineAt, pads := { s.pads with sckLatch := if n = 0 then s.pads.sckLatch else false },
      env := s.env.after 0 n 0 (wireShiftIn n s.env.lineAt) } := by
  induction n with
  | zero => simp [shiftInLines, wireShiftIn, bitsWord, bitsValue, Env.after_nothing, ← hacc]
  | succ n ih =>
    rw [shiftInLines_succ, runLines_append _ _ ih, runLines_shiftInBit]
    · simp [accumulate_bitsWord, Env.after_after, wireShiftIn_succ]
    · exact hd

theorem runShiftIn_refused {n : Nat} (h : 16 < n) (s : State) : runShiftIn n s = .refused .shiftInTooWide := if_pos h

/-- `ShiftIn(n)` inside its domain, whatever `ACC` was. -/
theorem runShiftIn_eq {n : Nat} (hn : n ≤ 16) {s : State} (hd : s.pads.dataMode ≠ .out) :
    runShiftIn n s = .next { s with
      acc := bitsWord n s.env.lineAt, pads := { s.pads with sckLatch := if n = 0 then s.pads.sckLatch else false },
      env := s.env.after 0 n 0 (wireShiftIn n s.env.lineAt) } :=
  (if_neg (Nat.not_lt.mpr hn)).trans (runLines_shiftInLines n (s := { s with acc := 0x0000#16 }) rfl hd)

/-- Up to sixteen bits fit in the word. -/
theorem toNat_bitsWord {n : Nat} (hn : n ≤ 16) (b : Nat → Level) : (bitsWord n b).toNat = bitsValue n b := by
  rw [bitsWord, BitVec.toNat_ofNat]
  exact Nat.mod_eq_of_lt ((bitsValue_lt b n).trans_le (Nat.pow_le_pow_right (by decide) hn))

/-- Settles O19: the run of the shift-in, whose word is the value of its bits as long as they fit. -/
theorem shiftInReturnsSampledValue : Obligations.ShiftInReturnsSampledValue := by
  refine fun n s => ⟨fun hn hd => ?_, fun hn => runShiftIn_refused hn s⟩
  have hvalue := toNat_bitsWord hn s.env.lineAt
  exact ⟨_, runShiftIn_eq hn hd, hvalue, hvalue.trans_lt (bitsValue_lt _ n), rfl⟩

/-! ## The loopback of a shift-out (R91) -/

theorem lineEvents_shiftOut8 (code : Byte) (b : Nat → Level) (c : Nat → Clk) :
    lineEvents b c (shiftOut8 code) = wireByte code := rfl

/-- The `k`-th bit driven stands at the head of the `k`-th group of three events (R87). -/
theorem getElem?_wireByte (c : Byte) {k : Nat} (hk : k < 8) : (wireByte c)[3 * k]? = some (evD (c.getLsbD (7 - k))) := by
  interval_cases k <;> rfl

/-- The value depends on no bit past the `n`-th. -/
theorem bitsValue_congr {n : Nat} {b b' : Nat → Level} (h : ∀ k, k < n → b k = b' k) :
    bitsValue n b = bitsValue n b' := by
  unfold bitsValue
  congr 1
  exact List.map_congr_left fun k hk => by rw [h k (List.mem_range.mp hk)]

/-- The bits of a number, highest first, have the value of the number. -/
theorem bitsValue_testBit (x n : Nat) : bitsValue n (fun k => x.testBit (n - 1 - k)) = x % 2 ^ n := by
  induction n with
  | zero => simp [bitsValue, Nat.mod_one]
  | succ n ih =>
    have htail : (fun k => x.testBit (n + 1 - 1 - (1 + k))) = fun k => x.testBit (n - 1 - k) :=
      funext fun k => by rw [Nat.add_sub_cancel, Nat.sub_sub]
    rw [Nat.add_comm n 1, bitsValue_append, Nat.add_comm 1 n, htail, ih, Nat.mod_pow_succ, ← Nat.toNat_testBit]
    simp [bitsValue, Nat.mul_comm, Nat.add_comm]

/-- A byte's bits in the order they are shifted out make the byte again. -/
theorem bitsWord_of_byte {c : Byte} {b : Nat → Level} (h : ∀ k, k < 8 → b k = c.getLsbD (7 - k)) :
    bitsWord 8 b = c.zeroExtend 16 := by
  have hvalue : bitsValue 8 b = c.toNat :=
    calc bitsValue 8 b = bitsValue 8 (fun k => c.toNat.testBit (8 - 1 - k)) := bitsValue_congr h
      _ = c.toNat % 2 ^ 8 := bitsValue_testBit ..
      _ = c.toNat := Nat.mod_eq_of_lt c.isLt
  rw [bitsWord, hvalue, BitVec.ofNat_toNat]

/-- Settles O20: the events of the shift-out name the answers, and the shift-in returns their value. -/
theorem loopbackReturnsTheByteSent : Obligations.LoopbackReturnsTheByteSent := by
  intro c s t hout hloop
  have htrace : t.env.trace.drop s.env.trace.length = wireByte c := by
    rw [runLines_env hout, Env.after_trace, lineEvents_shiftOut8, List.drop_left]
  have hanswers : ∀ k, k < 8 → t.env.lineAt k = c.getLsbD (7 - k) := by
    intro k hk
    have hdriven := hloop k hk
    rw [htrace, getElem?_wireByte c hk] at hdriven
    simpa using hdriven.symm
  exact ⟨_, runShiftIn_eq (by decide) (inMode_ne_out t.pullEn), bitsWord_of_byte hanswers⟩

/-! ## Step by step and in one go (R84) -/

theorem endPhase_elapse (u n : Nat) (s : State) :
    endPhase (s.elapse u n) = endPhase { s with done := false, env := s.env.skipHost n } :=
  endPhase_upc u { s with done := false, env := s.env.skipHost n }

/-- Settles O29: each of the three phases runs from its first line as its micro-program does. -/
theorem stepsRefineThePhaseRunInOneGo : Obligations.StepsRefineThePhaseRunInOneGo := by
  intro s _ hu hph hr
  have hfixed : s.ph ≠ .idle ∧ s.ph ≠ .wr := by
    obtain h | h | h := hph <;> simp [h]
  obtain ⟨hb, hwr⟩ := hfixed
  obtain ⟨t, hlines, hsteps⟩ := steps_phase hb hwr hu hr
  exact ⟨t, hlines, hsteps.trans (congrArg _ (endPhase_elapse ..))⟩

end Sys2Proof.Machine
end

section
/-! PROOFS. The four protocol operations as a whole (spec/41_protocol_ops.md R100 to R108): each phase run from its
first line to its end, and from it the operation from acceptance to completion. -/

namespace Sys2Proof.Machine

/-! ## The micro-programs of fixed length in one go (R100, R105, R108) -/

/-- One bit of the shift-out (R87). -/
theorem runLines_shiftOutBit (code : Byte) (k : Nat) (s : State) :
    runLines (shiftOutBit code k) s = .next { s with
      pads := { s.pads with dataLatch := codeBit code k, sckLatch := false },
      env := s.env.after 0 0 0 [evD (codeBit code k), evC true, evC false] } := by
  simp [shiftOutBit, runLines_pulseSck, Env.after_after, Pads.setLatch]

/-- R87: bit 0 is the last one driven, and stays on the latch. -/
theorem runLines_shiftOut8 (code : Byte) (s : State) :
    runLines (shiftOut8 code) s = .next { s with
      pads := { s.pads with dataLatch := code.getLsbD 0, sckLatch := false },
      env := s.env.after 0 0 0 (wireByte code) } := by
  simp only [shiftOut8, List.append_assoc, runLines_append _ _ (runLines_shiftOutBit ..), runLines_shiftOutBit,
    Env.after_after]
  rfl

/-- Phase SC in one go (R100). -/
theorem runLines_scProgram {im : PadMode} (him : im ≠ .out) (code : Byte) (s : State) :
    runLines (scProgram code im) s = .next { s with
      ack1 := s.env.lineAt 0, ack2 := s.env.lineAt 1,
      pads := { dataMode := im, dataLatch := code.getLsbD 0, sckMode := .out, sckLatch := false },
      env := s.env.after 0 2 0 (wireCommand code im (s.env.lineAt 0) (s.env.lineAt 1)) } := by
  simp only [scProgram, List.append_assoc, runLines_append _ _ (runLines_bothOut _),
    runLines_append _ _ (runLines_startSeq _), runLines_append _ _ (runLines_shiftOut8 ..), runLines_ackRead him,
    Env.after_after, Env.lineAt_after, wireCommand]

/-- The shift-in from `ACC` = 0, with the caller's register write beside its last falling drive (R89). -/
theorem runLines_shiftInLines_succ (n : Nat) (w : RegWrite) {s : State} (hacc : s.acc = 0x0000#16)
    (hd : s.pads.dataMode ≠ .out) :
    runLines (shiftInLines (n + 1) w) s = .next (w.apply { s with
      acc := bitsWord (n + 1) s.env.lineAt, pads := { s.pads with sckLatch := false },
      env := s.env.after 0 (n + 1) 0 (wireShiftIn (n + 1) s.env.lineAt) }) := by
  rw [shiftInLines_succ, runLines_append _ _ (runLines_shiftInLines n hacc hd), runLines_shiftInBit]
  · simp [accumulate_bitsWord, Env.after_after, wireShiftIn_succ]
  · exact hd

/-- RW steps 0 to 25 (R105): the high byte, moved to its place. -/
theorem runLines_receiveHigh {im : PadMode} (him : im ≠ .out) (s : State) :
    runLines ([.mode .data im .nothing, .mode .sck .out .clearAcc] ++ shiftInLines 8 .latchHigh) s = .next { s with
      acc := bitsWord 8 s.env.lineAt, val := highByte (bitsWord 8 s.env.lineAt),
      pads := { s.pads with dataMode := im, sckMode := .out, sckLatch := false },
      env := s.env.after 0 8 0 ([.mode .data im, .mode .sck .out] ++ wireShiftIn 8 s.env.lineAt) } := by
  simp only [List.cons_append, List.nil_append, runLines_mode]
  rw [runLines_shiftInLines_succ]
  all_goals simp [RegWrite.apply, Env.after_after, Pads.setMode, Env.lineAt_after_fun, him]

/-- RW steps 31 to 55 (R105): the low byte, and the word made of both. -/
theorem runLines_receiveLow {im : PadMode} (him : im ≠ .out) (s : State) :
    runLines (.mode .data im .clearAcc :: shiftInLines 8 .finishWord) s = .next (finishWord { s with
      acc := bitsWord 8 s.env.lineAt, pads := { s.pads with dataMode := im, sckLatch := false },
      env := s.env.after 0 8 0 (.mode .data im :: wireShiftIn 8 s.env.lineAt) }) := by
  rw [runLines_mode, runLines_shiftInLines_succ]
  all_goals simp [RegWrite.apply, Env.after_after, Pads.setMode, Env.lineAt_after_fun, him]

/-- Phase RW in one go (R105), inside MEAST with the copy in `LAST_TEMP` (R127). -/
theorem runLines_rwProgram {im : PadMode} (him : im ≠ .out) (s : State) :
    runLines (rwProgram im) s = .next { s with
      acc := bitsWord 8 fun k => s.env.lineAt (8 + k), val := bitsWord 16 s.env.lineAt, raw := bitsWord 16 s.env.lineAt,
      lastTemp := if s.seq = .temp then bitsWord 16 s.env.lineAt else s.lastTemp,
      ltv := if s.seq = .temp then true else s.ltv,
      pads := { dataMode := im, dataLatch := false, sckMode := .out, sckLatch := false },
      env := s.env.after 0 16 0 (wireData im s.env.lineAt) } := by
  rw [rwProgram, List.append_assoc, List.append_assoc, runLines_append _ _ (runLines_receiveHigh him s),
    runLines_append _ _ (runLines_midAck _), List.singleton_append, runLines_receiveLow him, finishWord_eq]
  simp [Env.after_after, Env.lineAt_after_fun, combine_bitsWord, wireData]

/-- Phase ET in one go (R108). -/
theorem runLines_etProgram (s : State) :
    runLines etProgram s = .next { s with pads := padsAfterEnd, env := s.env.after 0 0 0 wireEnd } := by
  simp only [etProgram, List.append_assoc, runLines_append _ _ (runLines_bothOut _), List.singleton_append,
    runLines_drive, RegWrite.apply_nothing, runLines_pulseSck, Env.after_after, Pads.setLatch]
  rfl

/-! ## The phases step by step (R84) -/

/-- A phase other than WR, whose program in one go is known, step by step. -/
theorem steps_of_runLines {ls : List MicroLine} {s t : State} (hp : s.program = ls) (hb : s.ph ≠ .idle)
    (hwr : s.ph ≠ .wr) (hu : s.upc = 0) (hr : NoReset ls.length s) (h : runLines ls s = .next t) :
    steps ls.length s = .next (endPhase { t with done := false, env := t.env.after ls.length 0 0 [] }) := by
  have hne : ls ≠ [] := by
    rw [← hp]
    exact List.ne_nil_of_length_pos (program_length hb ▸ phaseLength_pos s.ph)
  rw [steps_runLines (pre := []) hb hwr hp hu hne hr h, endPhase_elapse, Env.skipHost_eq_after]

/-- Phase SC step by step (R100). -/
theorem steps_sc {s : State} (hph : s.ph = .sc) (hu : s.upc = 0) (hr : NoReset 38 s) :
    steps 38 s = .next (endPhase { s with
      ack1 := s.env.lineAt 0, ack2 := s.env.lineAt 1,
      pads := { dataMode := inMode s.pullEn, dataLatch := s.code.getLsbD 0, sckMode := .out, sckLatch := false },
      done := false,
      env := s.env.after 38 2 0 (wireCommand s.code (inMode s.pullEn) (s.env.lineAt 0) (s.env.lineAt 1)) }) := by
  have hsteps := steps_of_runLines (ls := scProgram s.code (inMode s.pullEn)) (by rw [State.program, hph])
    (by simp [hph]) (by simp [hph]) hu hr (runLines_scProgram (inMode_ne_out s.pullEn) s.code s)
  simpa [Env.after_after] using hsteps

/-- Phase RW step by step (R105). -/
theorem steps_rw {s : State} (hph : s.ph = .rw) (hu : s.upc = 0) (hr : NoReset 56 s) :
    steps 56 s = .next (endPhase { s with
      acc := bitsWord 8 fun k => s.env.lineAt (8 + k), val := bitsWord 16 s.env.lineAt, raw := bitsWord 16 s.env.lineAt,
      lastTemp := if s.seq = .temp then bitsWord 16 s.env.lineAt else s.lastTemp,
      ltv := if s.seq = .temp then true else s.ltv,
      pads := { dataMode := inMode s.pullEn, dataLatch := false, sckMode := .out, sckLatch := false },
      done := false, env := s.env.after 56 16 0 (wireData (inMode s.pullEn) s.env.lineAt) }) := by
  have hsteps := steps_of_runLines (ls := rwProgram (inMode s.pullEn)) (by rw [State.program, hph])
    (by simp [hph]) (by simp [hph]) hu hr (runLines_rwProgram (inMode_ne_out s.pullEn) s)
  simpa [Env.after_after] using hsteps

/-- Phase ET step by step (R108). -/
theorem steps_et {s : State} (hph : s.ph = .et) (hu : s.upc = 0) (hr : NoReset 5 s) :
    steps 5 s = .next (endPhase { s with
      pads := padsAfterEnd, done := false, env := s.env.after 5 0 0 wireEnd }) := by
  have hsteps := steps_of_runLines (ls := etProgram) (by rw [State.program, hph]) (by simp [hph]) (by simp [hph]) hu hr
    (runLines_etProgram s)
  simpa [Env.after_after] using hsteps

/-! ## From acceptance to completion (R121, R124, R125) -/

theorem accept_eq (q : Seq) (p : Phase) (c : Byte) (s : State) :
    accept q p c s = { s with
      seq := q, ph := p, upc := 0, code := c, done := false, env := s.env.after 1 0 0 [] } := by
  rw [accept, State.tick_eq]

theorem noReset_accept {n : Nat} {s : State} (q : Seq) (p : Phase) (c : Byte) (h : NoReset (1 + n) s) :
    NoReset n (accept q p c s) :=
  noReset_of_after (Env.skipHost_eq_after 1 s.env) h

/-- Outside a measurement the end of any phase completes the operation (R124). -/
theorem endPhase_of_seq_none {s : State} (h : s.seq = .none) : endPhase s = completeOperation s :=
  endPhase_completes (by rw [h]; rfl)

theorem runOperation_of_exec {i : Instr} {n : Nat} {s t : State} (h : exec i s = .next t) :
    runOperation i n s = steps n t := by
  simp only [runOperation, h]

/-- Settles O37: phase SC from the acceptance on. -/
theorem sendcmdRunsToCompletion : Obligations.SendcmdRunsToCompletion := by
  intro c s hph hr
  refine ⟨accept .none .sc c s, exec_idle (.sendcmd c) hph, rfl, rfl, rfl, ?_⟩
  rw [steps_sc rfl rfl (noReset_accept _ _ _ hr), endPhase_of_seq_none rfl]
  simp [accept_eq, completeOperation, Env.after_after]

/-- The samples are the only events of SENDCMD that tell its acknowledgments (R101). -/
theorem map_withoutAnswer_wireCommand (c : Byte) (im : PadMode) (a₁ a₂ : Level) :
    (wireCommand c im a₁ a₂).map Event.withoutAnswer = wireCommand c im false false := rfl

/-- Settles O38: the final state of each run, whose trace has the answers in its two samples only. -/
theorem sendcmdDrivesTheSameForAllAcknowledgments : Obligations.SendcmdDrivesTheSameForAllAcknowledgments := by
  intro c s answers hph hr
  obtain ⟨t, ht, -, -, -, hsteps⟩ := sendcmdRunsToCompletion c s hph hr
  obtain ⟨u, hu, -, -, -, hsteps'⟩ :=
    sendcmdRunsToCompletion c { s with env := { s.env with lineAnswers := answers } } hph hr
  refine ⟨_, _, (runOperation_of_exec ht).trans hsteps, (runOperation_of_exec hu).trans hsteps',
    rfl, rfl, rfl, rfl, rfl, ?_⟩
  simp [map_withoutAnswer_wireCommand]

/-- Settles O39: phase WR from the acceptance on. -/
theorem waitrdyEndsByReadyOrDeadline : Obligations.WaitrdyEndsByReadyOrDeadline := by
  intro j timedOut s hph hr hends
  refine ⟨accept .none .wr s.code s, exec_idle .waitrdy hph, rfl, rfl, ?_⟩
  rw [steps_wr rfl rfl (noReset_accept _ _ _ hr) hends, endPhase_of_seq_none rfl]
  simp [accept_eq, completeOperation, Env.after_after, Env.clockAt_after_fun, Pads.setMode]

/-- A poll of `j` whole iterations is longest when it times out (R111). -/
theorem pollLength_le (j : Nat) (timedOut : Bool) : pollLength j timedOut ≤ 4 + 2 * j := by
  unfold pollLength
  split <;> omega

/-- A clock answer at the deadline bounds the poll: the first iteration that finds an end comes no later (R104). -/
theorem exists_pollEnds_of_passed {timeout : Clk} {b : Nat → Level} {c : Nat → Clk} {j : Nat}
    (h : timeout.toNat ≤ (c (j + 1) - c 0).toNat) : ∃ k timedOut, k ≤ j ∧ PollEnds timeout b c k timedOut := by
  have hend : ∃ k, b k = false ∨ timeout.toNat ≤ (c (k + 1) - c 0).toNat := ⟨j, .inr h⟩
  refine ⟨Nat.find hend, b (Nat.find hend), Nat.find_min' hend (.inr h), fun i hi => ?_, rfl, fun hb => ?_⟩
  · simpa using Nat.find_min hend hi
  · exact (Nat.find_spec hend).resolve_left (by simp [hb])

/-- Settles O40: O39 for the first iteration that finds an end. -/
theorem pollEndsNoLaterThanTheDeadlineRead : Obligations.PollEndsNoLaterThanTheDeadlineRead := by
  intro j s hph hr hpassed
  obtain ⟨k, timedOut, hk, hends⟩ := exists_pollEnds_of_passed (b := s.env.lineAt) hpassed
  have hlen := pollLength_le k timedOut
  obtain ⟨t, ht, -, -, hsteps⟩ :=
    waitrdyEndsByReadyOrDeadline k timedOut s hph (fun i hi => hr i (by omega)) hends
  exact ⟨t, pollLength k timedOut, _, ht, by omega, hsteps, rfl, rfl⟩

/-- Settles O41: the two lines before the loop, then `j` iterations that find neither end. -/
theorem pollGoesOnWhileNeitherEndHolds : Obligations.PollGoesOnWhileNeitherEndHolds := by
  intro j s hph hr hwait
  have hr' : NoReset (2 + 2 * j) (accept .none .wr s.code s) := noReset_accept _ _ _ fun i hi => hr i (by omega)
  have hstart := steps_poll_start (s := accept .none .wr s.code s) rfl rfl fun i hi => hr' i (by omega)
  refine ⟨_, _, exec_idle .waitrdy hph,
    (steps_add_of_steps hstart).trans (steps_poll_iterations rfl rfl ?_ rfl ?_ ?_), rfl, rfl, rfl⟩
  · simp
  · exact noReset_of_after rfl hr'
  · simpa [Nat.add_comm 1] using hwait

/-- Settles O42: phase RW from the acceptance on, outside MEAST. -/
theorem rdwordReceivesSixteenBits : Obligations.RdwordReceivesSixteenBits := by
  intro s hph hr
  refine ⟨accept .none .rw s.code s, exec_idle .rdword hph, rfl, rfl, ?_⟩
  rw [steps_rw rfl rfl (noReset_accept _ _ _ hr), endPhase_of_seq_none rfl]
  simp [accept_eq, completeOperation, Env.after_after, Env.lineAt_after_fun]

/-- Settles O43: phase ET from the acceptance on. -/
theorem endtxLeavesDataDrivenHigh : Obligations.EndtxLeavesDataDrivenHigh := by
  intro s hph hr
  refine ⟨accept .none .et s.code s, exec_idle .endtx hph, rfl, rfl, ?_⟩
  rw [steps_et rfl rfl (noReset_accept _ _ _ hr), endPhase_of_seq_none rfl]
  simp [accept_eq, completeOperation, Env.after_after, padsAfterEnd]

end Sys2Proof.Machine
end

section
/-! PROOFS. The sequencer (spec/42_sequencer_ops.md): acceptance (R121, R130), the end of a phase and completion (R124,
R125), the command port of a busy engine (R126), and the two measurements as one transaction each (R127 to R129). -/

namespace Sys2Proof.Machine

/-! ## Acceptance (R121, R130) -/

/-- Settles O7: the acceptance of an idle engine, for each operation. -/
theorem acceptanceStepSetsPosition : Obligations.AcceptanceStepSetsPosition := fun _ hph =>
  ⟨fun c => exec_idle (.sendcmd c) hph, exec_idle .waitrdy hph, exec_idle .rdword hph, exec_idle .endtx hph,
    exec_idle .meast hph, exec_idle .meash hph⟩

/-- An idle engine accepts an illegal word (R130). -/
theorem presentWord_illegal {w : Word} {e : DecodeError} {s : State} (hw : decode w = .error e) (hph : s.ph = .idle) :
    presentWord w s = .next (acceptIllegal s) := by
  simp only [presentWord, hw, present_idle hph]

/-- Settles O8: the acceptance of an illegal word. -/
theorem illegalWordOnlySetsIll : Obligations.IllegalWordOnlySetsIll := fun _ _ hph hr hv hw =>
  (step_present hr hph hv).trans (presentWord_illegal hw hph)

/-! ## The end of a phase (R124, R125) -/

theorem endPhase_seq_eq (s : State) :
    (endPhase s).seq = if nextPhase s.seq s.ph = .idle then .none else s.seq := by
  rw [endPhase_eq]
  split <;> rfl

/-- In a step whose `done` is not yet set, the end of a phase sets it exactly when the operation completes (R125). -/
theorem endPhase_done {s : State} (h : s.done = false) :
    (endPhase s).done = decide (nextPhase s.seq s.ph = .idle) := by
  rw [endPhase_eq]
  split <;> simp [*]

/-- Where the phase ends, its line moves the position to the phase's end (R18, R124). -/
theorem movePosition_of_endsPhase {s t : State} {l : MicroLine} (hl : s.currentLine = some l) (he : EndsPhase s)
    (hupc : t.upc = s.upc) (hlen : t.program.length = phaseLength s.ph) :
    movePosition (lineFlow l s) t = endPhase t := by
  obtain ⟨-, -, hpoll, -, hdeadline, -⟩ := currentLine_uses hl
  have last (hwr : s.ph ≠ .wr) (hu : s.upc + 1 = phaseLength s.ph) : movePosition (lineFlow l s) t = endPhase t := by
    rw [lineFlow_eq_advance s (fun h => hwr (hpoll.mp h).1) (fun h => hwr (hdeadline.mp h).1)]
    exact movePosition_last (by rw [hupc, hlen, hu])
  obtain ⟨hph, hu⟩ | ⟨hph, hu⟩ | ⟨hph, hu⟩ | ⟨hph, hu, hready⟩ | ⟨hph, hu, hpassed⟩ := he
  · exact last (by simp [hph]) (by simp [hph, hu, phaseLength])
  · exact last (by simp [hph]) (by simp [hph, hu, phaseLength])
  · exact last (by simp [hph]) (by simp [hph, hu, phaseLength])
  · rw [hpoll.mpr ⟨hph, hu⟩, lineFlow_poll_ready hready]; rfl
  · rw [hdeadline.mpr ⟨hph, hu⟩, lineFlow_deadline_passed hpassed]; rfl

theorem EndsPhase.ph_ne_idle {s : State} (h : EndsPhase s) : s.ph ≠ .idle := by
  obtain ⟨hph, -⟩ | ⟨hph, -⟩ | ⟨hph, -⟩ | ⟨hph, -⟩ | ⟨hph, -⟩ := h <;> simp [hph]

/-- Settles O26: the last line of a phase, then the table. -/
theorem phaseEndFollowsTable : Obligations.PhaseEndFollowsTable := by
  intro s hs hr he
  obtain ⟨l, u, hl, hu, hstep⟩ := step_running hs he.ph_ne_idle hr
  obtain ⟨hseq, hph, hupc, -, -, hdone, -⟩ := lineEffect_frame hu
  simp only [State.tick_seq, State.tick_ph, State.tick_upc, State.tick_done] at hseq hph hupc hdone
  have hlen : u.program.length = phaseLength s.ph := by rw [program_length (hph ▸ he.ph_ne_idle), hph]
  rw [movePosition_of_endsPhase hl he hupc hlen] at hstep
  refine ⟨_, hstep, ?_, ?_, ?_, ?_⟩
  · rw [endPhase_frame]
  · rw [endPhase_ph, hseq, hph]
  · rw [endPhase_seq_eq, hseq, hph]
  · rw [endPhase_done hdone, hseq, hph]

/-- A move of the position in a running phase sets `done` exactly when it completes the operation (R125). -/
theorem movePosition_done_iff {s : State} (f : Flow) (hb : s.ph ≠ .idle) (hd : s.done = false) :
    (movePosition f s).done = true ↔ (movePosition f s).ph = .idle := by
  obtain ⟨-, -, h⟩ | ⟨n, -, h⟩ | ⟨-, h⟩ := movePosition_cases f s
  · simp [h, hb, hd]
  · simp [h, hb, hd]
  · rw [h, endPhase_done hd, endPhase_ph, decide_eq_true_iff]

theorem microStep_done_iff {s t : State} (hb : s.ph ≠ .idle) (h : microStep s = .next t) :
    t.done = true ↔ t.ph = .idle := by
  obtain ⟨l, u, -, hu, rfl⟩ := microStep_cases h
  obtain ⟨-, hph, -, -, -, hdone, -⟩ := lineEffect_frame hu
  exact movePosition_done_iff _ (hph ▸ hb) hdone

/-- Settles O27: each kind of step. -/
theorem doneMarksExactlyCompletion : Obligations.DoneMarksExactlyCompletion := by
  intro s t h
  obtain ⟨hr, rfl⟩ | ⟨hr, hb, hm⟩ | ⟨hr, hp, hv, ⟨i, hi, rfl⟩ | ⟨he, rfl⟩⟩ | ⟨hr, hp, hv, rfl⟩ := step_cases h
  · simp [hr, State.reset]
  · simp [hr, hb, microStep_done_iff hb hm]
  · simp [hp, hi]
  · simp [hr, hp, hv, he]
  · simp [hp, hv]

/-! ## The command port of a busy engine (R126) -/

/-- `s` with another schedule of the host to come. -/
def State.withHost (h : List HostPins) (s : State) : State := { s with env := { s.env with host := h } }

/-- No line reads the host's schedule. -/
theorem lineEffect_withHost (l : MicroLine) (h : List HostPins) (s : State) :
    lineEffect l (s.withHost h) = mapNext (State.withHost h) (lineEffect l s) := by
  cases l with
  | mode ln m w => simp only [lineEffect, mapNext, RegWrite.apply_eq]; rfl
  | drive ln v w => simp only [lineEffect, mapNext, RegWrite.apply_eq]; rfl
  | sample u =>
    by_cases hd : s.pads.dataMode = .out
    · rw [lineEffect_sample_driven u hd, lineEffect_sample_driven (s := s.withHost h) u hd]; rfl
    · rw [lineEffect_sample_released u hd, lineEffect_sample_released (s := s.withHost h) u hd]
      simp only [mapNext, SampleUse.apply_eq]; rfl
  | now u => simp only [lineEffect, mapNext, ClockUse.apply_eq]; rfl

theorem endPhase_withHost (h : List HostPins) (s : State) : endPhase (s.withHost h) = (endPhase s).withHost h := by
  by_cases hn : nextPhase s.seq s.ph = .idle
  · rw [endPhase_completes hn, endPhase_completes (s := s.withHost h) hn]; rfl
  · rw [endPhase_enters hn, endPhase_enters (s := s.withHost h) hn]; rfl

theorem movePosition_withHost (f : Flow) (h : List HostPins) (s : State) :
    movePosition f (s.withHost h) = (movePosition f s).withHost h := by
  cases f with
  | advance =>
    by_cases hlast : s.upc + 1 = s.program.length
    · rw [movePosition_last hlast, movePosition_last (s := s.withHost h) hlast, endPhase_withHost]
    · rw [movePosition_advance hlast, movePosition_advance (s := s.withHost h) hlast]; rfl
  | goto n => rfl
  | finish => exact endPhase_withHost h s

theorem lineFlow_withHost (l : MicroLine) (h : List HostPins) (s : State) : lineFlow l (s.withHost h) = lineFlow l s := by
  cases l <;> rfl

/-- A running step uses up one entry of the host's schedule and does not read it (R126). -/
theorem microStep_withHost (h : List HostPins) (s : State) :
    microStep (s.withHost h) = mapNext (State.withHost (h.drop 1)) (microStep s) := by
  cases hl : s.currentLine with
  | none =>
    have hl' : (s.withHost h).currentLine = none := hl
    simp only [microStep, hl, hl', mapNext]
  | some l =>
    have hl' : (s.withHost h).currentLine = some l := hl
    have htick : (s.withHost h).tick = s.tick.withHost (h.drop 1) := rfl
    have hcomm : movePosition (lineFlow l s) ∘ State.withHost (h.drop 1) =
        State.withHost (h.drop 1) ∘ movePosition (lineFlow l s) := funext fun u => movePosition_withHost _ _ u
    rw [microStep_eq_mapNext hl, microStep_eq_mapNext hl', lineFlow_withHost, htick, lineEffect_withHost,
      mapNext_mapNext, mapNext_mapNext, hcomm]

/-- A running step leaves the rest of the host's schedule. -/
theorem noReset_of_microStep {n : Nat} {s t : State} (h : microStep s = .next t) (hr : NoReset (n + 1) s) :
    NoReset n t := by
  obtain ⟨l, u, -, hu, rfl⟩ := microStep_cases h
  intro k hk
  rw [movePosition_env, lineEffect_hostAt hu, State.tick_env, Env.hostAt_skipHost]
  exact hr _ (by omega)

/-- As long as the engine is busy, a run under another schedule is the same run (R126). -/
theorem steps_withHost {n : Nat} {s : State} {h : List HostPins} (hr : NoReset n s) (hr' : NoReset n (s.withHost h))
    (hbusy : ∀ k t, k < n → steps k s = .next t → t.busy = true) :
    steps n (s.withHost h) = mapNext (State.withHost (h.drop n)) (steps n s) := by
  induction n generalizing s h with
  | zero => rfl
  | succ n ih =>
    have hb : s.ph ≠ .idle := (State.busy_eq_true s).mp (hbusy 0 s n.succ_pos rfl)
    have hstep : step s = microStep s := step_busy (hr 0 n.succ_pos) hb
    have hstep' : step (s.withHost h) = microStep (s.withHost h) := step_busy (hr' 0 n.succ_pos) hb
    have hsame := microStep_withHost h s
    cases hm : microStep s with
    | next t =>
      rw [hm] at hstep hsame
      rw [hsame] at hstep'
      rw [steps_succ_of_step hstep, steps_succ_of_step hstep', ih (noReset_of_microStep hm hr)
        (noReset_of_microStep hsame hr')
        (fun k u hk hu => hbusy (k + 1) u (by omega) ((steps_succ_of_step hstep).trans hu)),
        List.drop_drop, Nat.add_comm 1]
    | fault e => simp only [steps, hstep, hstep', hsame, hm, mapNext]
    | refused e => simp only [steps, hstep, hstep', hsame, hm, mapNext]

/-- Settles O10: the other schedule is `State.withHost`'s. -/
theorem busyEngineIgnoresCommandPort : Obligations.BusyEngineIgnoresCommandPort :=
  fun _ _ _ hr hr' hbusy => steps_withHost hr hr' hbusy

/-! ## The two measurements (R127, R128) -/

theorem endPhase_eq_enterPhase {p : Phase} {s : State} (h : nextPhase s.seq s.ph = p) (hp : p ≠ .idle) :
    endPhase s = enterPhase p s := by
  rw [endPhase_enters (h ▸ hp), h]

theorem nextPhase_et (q : Seq) : nextPhase q .et = .idle := by
  cases q <;> rfl

/-- The first half of a sequencer operation: the command and the poll, up to the first line of RW (R124). -/
theorem steps_command_poll {j : Nat} {timedOut : Bool} {s : State} (hseq : s.seq ≠ .none) (hph : s.ph = .sc)
    (hu : s.upc = 0) (hr : NoReset (38 + pollLength j timedOut) s)
    (hends : PollEnds s.params.timeoutMs (fun k => s.env.lineAt (2 + k)) s.env.clockAt j timedOut) :
    steps (38 + pollLength j timedOut) s = .next { s with
      ph := .rw, upc := 0, t0 := s.env.clockAt 0, ack1 := s.env.lineAt 0, ack2 := s.env.lineAt 1, tmo := timedOut,
      pads := { dataMode := inMode s.pullEn, dataLatch := s.code.getLsbD 0, sckMode := .out, sckLatch := false },
      done := false,
      env := s.env.after (38 + pollLength j timedOut) (3 + j) (pollReads j timedOut)
        (wireCommand s.code (inMode s.pullEn) (s.env.lineAt 0) (s.env.lineAt 1) ++
          wirePoll (inMode s.pullEn) j timedOut s.env.clockAt) } := by
  obtain ⟨hwr, hrw, -⟩ := nextPhase_of_seq hseq
  have hsc := steps_sc hph hu fun k hk => hr k (by omega)
  rw [endPhase_eq_enterPhase (p := .wr) (by rw [hph, hwr]) (by decide)] at hsc
  refine (steps_add_of_steps hsc).trans (Eq.trans (steps_wr rfl rfl ?_ ?_) ?_)
  · exact noReset_of_after rfl hr
  · simpa [Env.lineAt_after_fun, Env.clockAt_after_fun] using hends
  · rw [endPhase_eq_enterPhase (p := .rw) hrw (by decide)]
    simp [enterPhase, Pads.setMode, Env.after_after, Env.clockAt_after_fun, show 2 + (j + 1) = 3 + j by omega]

/-- The second half: the receive and the end of the transaction (R124). -/
theorem steps_receive_end {s : State} (hseq : s.seq ≠ .none) (hph : s.ph = .rw) (hu : s.upc = 0)
    (hr : NoReset (56 + 5) s) :
    steps (56 + 5) s = .next { s with
      seq := .none, ph := .idle, upc := 0, acc := bitsWord 8 fun k => s.env.lineAt (8 + k),
      val := bitsWord 16 s.env.lineAt, raw := bitsWord 16 s.env.lineAt,
      lastTemp := if s.seq = .temp then bitsWord 16 s.env.lineAt else s.lastTemp,
      ltv := if s.seq = .temp then true else s.ltv, pads := padsAfterEnd, done := true,
      env := s.env.after (56 + 5) 16 0 (wireData (inMode s.pullEn) s.env.lineAt ++ wireEnd) } := by
  obtain ⟨-, -, het⟩ := nextPhase_of_seq hseq
  have hrw := steps_rw hph hu fun k hk => hr k (by omega)
  rw [endPhase_eq_enterPhase (p := .et) (by rw [hph, het]) (by decide)] at hrw
  refine (steps_add_of_steps hrw).trans (Eq.trans (steps_et rfl rfl ?_) ?_)
  · exact noReset_of_after rfl hr
  · rw [endPhase_completes (nextPhase_et _)]
    simp [completeOperation, enterPhase, Env.after_after]

/-- The four phases of a sequencer operation, from SC to completion (R127, R128). -/
theorem steps_sequencer {j : Nat} {timedOut : Bool} {s : State} (hseq : s.seq ≠ .none) (hph : s.ph = .sc)
    (hu : s.upc = 0) (hr : NoReset (99 + pollLength j timedOut) s)
    (hends : PollEnds s.params.timeoutMs (fun k => s.env.lineAt (2 + k)) s.env.clockAt j timedOut) :
    steps (99 + pollLength j timedOut) s = .next { s with
      seq := .none, ph := .idle, upc := 0,
      acc := bitsWord 8 fun k => s.env.lineAt (3 + j + 8 + k), val := bitsWord 16 fun k => s.env.lineAt (3 + j + k),
      raw := bitsWord 16 fun k => s.env.lineAt (3 + j + k),
      lastTemp := if s.seq = .temp then bitsWord 16 fun k => s.env.lineAt (3 + j + k) else s.lastTemp,
      ltv := if s.seq = .temp then true else s.ltv,
      t0 := s.env.clockAt 0, ack1 := s.env.lineAt 0, ack2 := s.env.lineAt 1, tmo := timedOut,
      pads := padsAfterEnd, done := true,
      env := s.env.after (99 + pollLength j timedOut) (3 + j + 16) (pollReads j timedOut)
        (wireMeasurement s.code (inMode s.pullEn) j timedOut s.env.lineAt s.env.clockAt) } := by
  rw [show 99 + pollLength j timedOut = 38 + pollLength j timedOut + (56 + 5) by omega] at hr ⊢
  have hfirst := steps_command_poll hseq hph hu (fun k hk => hr k (by omega)) hends
  refine (steps_add_of_steps hfirst).trans (Eq.trans (steps_receive_end hseq rfl rfl ?_) ?_)
  · exact noReset_of_after rfl hr
  · simp [Env.after_after, Env.lineAt_after_fun, wireMeasurement, Nat.add_assoc]

/-- Settles O44: the four phases from the acceptance on, which sets `SEQ` to TEMP. -/
theorem meastRunsOneTransaction : Obligations.MeastRunsOneTransaction := by
  intro j timedOut s hph hr hends
  refine ⟨accept .temp .sc s.params.cmdTemp s, exec_idle .meast hph, rfl, rfl, rfl, rfl, ?_⟩
  rw [steps_sequencer (by simp) rfl rfl (noReset_accept _ _ _ hr) hends]
  simp [accept_eq, Env.after_after, Env.clockAt_after_fun, wireMeasurement]

/-- Settles O45: the same with `SEQ` = HUMI, for which RW leaves `LAST_TEMP` and `LTV`. -/
theorem meashRunsOneTransaction : Obligations.MeashRunsOneTransaction := by
  intro j timedOut s hph hr hends
  refine ⟨accept .humi .sc s.params.cmdHumi s, exec_idle .meash hph, rfl, rfl, rfl, rfl, ?_⟩
  rw [steps_sequencer (by simp) rfl rfl (noReset_accept _ _ _ hr) hends]
  simp [accept_eq, Env.after_after, Env.clockAt_after_fun, wireMeasurement]

/-! ## A measurement and its four words (R129) -/

/-- A program's first operation, as the statements about whole operations give it: accepted into its phase, then run. -/
theorem runProgram_cons_of_run {i : Instr} {n : Nat} {p : Phase} {rest : List (Instr × Nat)} {s u : State}
    (h : ∃ t, exec i s = .next t ∧ t.ph = p ∧ t.upc = 0 ∧ steps n t = .next u) :
    runProgram ((i, n) :: rest) s = runProgram rest u := by
  obtain ⟨t, hexec, -, -, hsteps⟩ := h
  simp only [runProgram, runOperation_of_exec hexec, hsteps]

/-- The four words of a measurement's command `c`, one after another (R129). -/
theorem runProgram_fourWords {j : Nat} {timedOut : Bool} {s : State} (c : Byte) (hph : s.ph = .idle)
    (hr : NoReset (4 + (99 + pollLength j timedOut)) s)
    (hends : PollEnds s.params.timeoutMs (fun k => s.env.lineAt (2 + k)) s.env.clockAt j timedOut) :
    runProgram [(.sendcmd c, 38), (.waitrdy, pollLength j timedOut), (.rdword, 56), (.endtx, 5)] s = .next { s with
      seq := .none, ph := .idle, upc := 0, code := c,
      acc := bitsWord 8 fun k => s.env.lineAt (3 + j + 8 + k), val := bitsWord 16 fun k => s.env.lineAt (3 + j + k),
      raw := bitsWord 16 fun k => s.env.lineAt (3 + j + k),
      t0 := s.env.clockAt 0, ack1 := s.env.lineAt 0, ack2 := s.env.lineAt 1, tmo := timedOut,
      pads := padsAfterEnd, done := true,
      env := s.env.after (4 + (99 + pollLength j timedOut)) (3 + j + 16) (pollReads j timedOut)
        (wireMeasurement c (inMode s.pullEn) j timedOut s.env.lineAt s.env.clockAt) } := by
  obtain ⟨t, hexec, hsc, hupc, -, hsteps⟩ := sendcmdRunsToCompletion c s hph fun k hk => hr k (by omega)
  refine (runProgram_cons_of_run ⟨t, hexec, hsc, hupc, hsteps⟩).trans
    ((runProgram_cons_of_run (waitrdyEndsByReadyOrDeadline j timedOut _ rfl ?_ ?_)).trans
      ((runProgram_cons_of_run (rdwordReceivesSixteenBits _ rfl ?_)).trans
        ((runProgram_cons_of_run (endtxLeavesDataDrivenHigh _ rfl ?_)).trans ?_)))
  · exact noReset_of_after rfl fun k hk => hr k (by omega)
  · simpa [Env.lineAt_after_fun, Env.clockAt_after_fun] using hends
  · intro k hk; simpa using hr _ (by omega)
  · intro k hk; simpa using hr _ (by omega)
  · have htotal : 39 + (1 + pollLength j timedOut) + 57 + 6 = 4 + (99 + pollLength j timedOut) := by omega
    have hbefore : 2 + (j + 1) = 3 + j := by omega
    have hlow (k : Nat) : 3 + j + (8 + k) = 3 + j + 8 + k := by omega
    simp [runProgram, Env.after_after, Env.lineAt_after_fun, Env.clockAt_after_fun, wireMeasurement, padsAfterEnd,
      htotal, hbefore, hlow]

/-- Settles O46: the final state of each measurement beside that of the four words. -/
theorem measurementEqualsItsFourWords : Obligations.MeasurementEqualsItsFourWords := by
  intro j timedOut s hph hr hends
  have hr' : NoReset (1 + (99 + pollLength j timedOut)) s := fun k hk => hr k (by omega)
  obtain ⟨t, ht, -, hsc, hupc, -, hsteps⟩ := meastRunsOneTransaction j timedOut s hph hr' hends
  obtain ⟨u, hu, -, hsc', hupc', -, hsteps'⟩ := meashRunsOneTransaction j timedOut s hph hr' hends
  have htotal : 1 + (99 + pollLength j timedOut) + 3 = 4 + (99 + pollLength j timedOut) := by omega
  refine ⟨⟨_, runProgram_cons_of_run ⟨t, ht, hsc, hupc, hsteps⟩, ?_⟩,
    ⟨_, runProgram_cons_of_run ⟨u, hu, hsc', hupc', hsteps'⟩, ?_⟩⟩
  · rw [runProgram_fourWords _ hph hr hends]
    simp [Env.skipHost_eq_after, Env.after_after, wireMeasurement, htotal]
  · rw [runProgram_fourWords _ hph hr hends]
    simp [Env.skipHost_eq_after, Env.after_after, wireMeasurement, htotal]

end Sys2Proof.Machine
end

section
/-! PROOFS. The engine takes no exception (spec/60_exceptions.md): what an idle step with nothing presented does (R145,
R154); that every step keeps the invariant, first for the pads, then for the position, then for the registers; and from
it that no run from a state of the invariant stops (R140). -/

namespace Sys2Proof.Machine

/-! ## The idle step (R145, R154) -/

/-- Settles O9: the fourth case of R145. -/
theorem idleStepChangesNothing : Obligations.IdleStepChangesNothing := fun _ hph hr hv => step_quiet hr hph hv

/-! ## The pads at a position (R27, R29, R110) -/

/-- The clauses of the invariant about the pads `p`, at position `u` of phase `ph` with input mode `im`. -/
structure PadsAt (im : PadMode) (ph : Phase) (u : Nat) (p : Pads) : Prop where
  dataDriven : dataOutAt ph u = true → p.dataMode = .out
  dataReleased : dataInAt ph u = true → p.dataMode = im
  sckDriven : sckOutAt ph u = true → p.sckMode = .out
  sckNeverPulled : p.sckMode ≠ .pullIn
  sckLevel : p.sckLatch = sckHighAt ph u

/-- A phase begins with SCK low and asks nothing else of the pads. -/
theorem padsAt_zero {p : Pads} (im : PadMode) (ph : Phase) (hmode : p.sckMode ≠ .pullIn) (hlow : p.sckLatch = false) :
    PadsAt im ph 0 p := by
  constructor <;> cases ph <;> simp [dataOutAt, dataInAt, sckOutAt, sckHighAt, hmode, hlow]

/-- Every phase ends with SCK low (R110). -/
theorem sckHighAt_phaseLength (ph : Phase) : sckHighAt ph (phaseLength ph) = false := by
  cases ph <;> rfl

/-- WR step 3 leaves the pads as WR step 2 needs them (R102). -/
theorem PadsAt.poll_again {im : PadMode} {p : Pads} (h : PadsAt im .wr 4 p) : PadsAt im .wr 2 p where
  dataDriven := h.dataDriven
  dataReleased := h.dataReleased
  sckDriven := h.sckDriven
  sckNeverPulled := h.sckNeverPulled
  sckLevel := h.sckLevel

theorem not_or_eq_true_iff (a b : Bool) : (!a || b) = true ↔ (a = true → b = true) := by
  cases a <;> simp

/-- A line leaves the pads as the next position needs them. -/
theorem PadsAt.after_line {im : PadMode} {ph : Phase} {u : Nat} {l : MicroLine} {s t : State}
    (hp : PadsAt im ph u s.pads) (hf : positionFollows im ph u l = true) (h : lineEffect l s = .next t) :
    PadsAt im ph (u + 1) t.pads := by
  obtain ⟨hout, hin, hsck, hpull, hlevel⟩ := hp
  simp only [positionFollows, Bool.and_eq_true, not_or_eq_true_iff, beq_iff_eq] at hf
  obtain ⟨⟨⟨⟨fout, fin⟩, fsck⟩, flevel⟩, fmode⟩ := hf
  obtain ⟨hmode, hdrive, hsample, hnow⟩ := lineEffect_pads h
  cases l with
  | mode ln m w =>
    rw [hmode _ _ _ rfl]
    cases ln with
    | data =>
      exact ⟨fun a => eq_of_beq (fout a), fun a => eq_of_beq (fin a), hsck ∘ fsck, hpull, hlevel.trans flevel.symm⟩
    | sck =>
      obtain rfl : m = .out := eq_of_beq fmode
      exact ⟨hout ∘ fout, hin ∘ fin, fun _ => rfl, PadMode.noConfusion, hlevel.trans flevel.symm⟩
  | drive ln v w =>
    rw [hdrive _ _ _ rfl]
    cases ln with
    | data => exact ⟨hout ∘ fout, hin ∘ fin, hsck ∘ fsck, hpull, hlevel.trans flevel.symm⟩
    | sck => exact ⟨hout ∘ fout, hin ∘ fin, hsck ∘ fsck, hpull, flevel.symm⟩
  | sample dest =>
    rw [hsample _ rfl]
    exact ⟨hout ∘ fout, hin ∘ fin, hsck ∘ fsck, hpull, hlevel.trans flevel.symm⟩
  | now dest =>
    rw [hnow _ rfl]
    exact ⟨hout ∘ fout, hin ∘ fin, hsck ∘ fsck, hpull, hlevel.trans flevel.symm⟩

/-! ## The position (R18, R125) -/

/-- The clauses of the invariant about the position, the pads and `done`. -/
structure PositionInv (s : State) : Prop where
  upcInRange : s.upc < phaseLength s.ph
  idleSeq : s.ph = .idle → s.seq = .none
  padsFit : PadsAt (inMode s.pullEn) s.ph s.upc s.pads
  doneIdle : s.done = true → s.ph = .idle

/-- The clauses of the invariant, in three groups. -/
theorem engineInv_iff (s : State) :
    EngineInv s ↔ PositionInv s ∧ (s.ltv = false → s.lastTemp = 0x0000#16) ∧ s.params.wf = true := by
  constructor
  · intro ⟨hupc, hseq, hout, hin, hsck, hpull, hlevel, hdone, htemp, hparams⟩
    exact ⟨⟨hupc, hseq, ⟨hout, hin, hsck, hpull, hlevel⟩, hdone⟩, htemp, hparams⟩
  · intro ⟨⟨hupc, hseq, ⟨hout, hin, hsck, hpull, hlevel⟩, hdone⟩, htemp, hparams⟩
    exact ⟨hupc, hseq, hout, hin, hsck, hpull, hlevel, hdone, htemp, hparams⟩

/-- The first position of a phase, and of idle. -/
theorem positionInv_of_upc_zero {s : State} (hu : s.upc = 0) (hseq : s.ph = .idle → s.seq = .none)
    (hmode : s.pads.sckMode ≠ .pullIn) (hlow : s.pads.sckLatch = false) (hdone : s.done = true → s.ph = .idle) :
    PositionInv s where
  upcInRange := hu ▸ phaseLength_pos s.ph
  idleSeq := hseq
  padsFit := hu ▸ padsAt_zero _ _ hmode hlow
  doneIdle := hdone

/-- The end of a phase leads to a first position, and sets `done` only in going to idle (R124, R125). -/
theorem positionInv_endPhase {s : State} (hmode : s.pads.sckMode ≠ .pullIn) (hlow : s.pads.sckLatch = false)
    (hdone : s.done = false) : PositionInv (endPhase s) := by
  rw [endPhase_eq]
  split
  case isTrue => exact positionInv_of_upc_zero rfl (fun _ => rfl) hmode hlow fun _ => rfl
  case isFalse hnext =>
    exact positionInv_of_upc_zero rfl (fun hidle => absurd hidle hnext) hmode hlow fun h => by simp [hdone] at h

/-- Only WR step 3 goes back, to WR step 2 (R102). -/
theorem lineFlow_eq_goto {l : MicroLine} {s : State} {n : Nat} (h : lineFlow l s = .goto n) :
    l = .now .deadline ∧ n = 2 := by
  by_cases hd : l = .now .deadline
  · subst hd
    simp only [lineFlow] at h
    split at h
    · cases h
    · exact ⟨rfl, (Flow.goto.inj h).symm⟩
  · by_cases hp : l = .sample .poll
    · subst hp
      simp only [lineFlow] at h
      split at h <;> cases h
    · rw [lineFlow_eq_advance s hp hd] at h; cases h

/-- Only the two tests of the poll end a phase early (R102). -/
theorem lineFlow_eq_finish {l : MicroLine} {s : State} (h : lineFlow l s = .finish) :
    l = .sample .poll ∨ l = .now .deadline := by
  by_contra hne
  rw [not_or] at hne
  rw [lineFlow_eq_advance s hne.1 hne.2] at h
  cases h

/-- Where a line ends its phase, SCK is low at the position after it. -/
theorem sckHighAt_succ_of_end {l : MicroLine} {s : State} (hl : s.currentLine = some l)
    (he : lineFlow l s = .finish ∨ s.upc + 1 = phaseLength s.ph) : sckHighAt s.ph (s.upc + 1) = false := by
  obtain hfinish | hlast := he
  · obtain ⟨-, -, hpoll, -, hdeadline, -⟩ := currentLine_uses hl
    have hwr : s.ph = .wr :=
      (lineFlow_eq_finish hfinish).elim (fun h => (hpoll.mp h).1) fun h => (hdeadline.mp h).1
    rw [hwr]; rfl
  · rw [hlast, sckHighAt_phaseLength]

/-- A running step keeps the clauses about the position: the line sets the pads for the next position, and the move goes
to that one, back in the poll, or to the first of another phase. -/
theorem microStep_keeps_positionInv {s t : State} (hs : PositionInv s) (hb : s.ph ≠ .idle)
    (h : microStep s = .next t) : PositionInv t := by
  obtain ⟨l, u, hl, hu, rfl⟩ := microStep_cases h
  obtain ⟨hseq, hph, hupc, -, -, hdone, hpull, -⟩ := lineEffect_frame hu
  simp only [State.tick_ph, State.tick_upc, State.tick_done, State.tick_pullEn] at hph hupc hdone hpull
  have hpads : PadsAt (inMode s.pullEn) s.ph (s.upc + 1) u.pads :=
    PadsAt.after_line (s := s.tick) hs.padsFit (currentLine_fits hl).2.1 hu
  have hlen : u.program.length = phaseLength s.ph := by rw [program_length (hph ▸ hb), hph]
  have hrunning : u.ph ≠ .idle := hph ▸ hb
  have hnotDone : u.done = true → u.ph = .idle := fun hd => by simp [hdone] at hd
  obtain ⟨-, hmore, ht⟩ | ⟨n, hback, ht⟩ | ⟨hend, ht⟩ := movePosition_cases (lineFlow l s) u
  · have hnext : s.upc + 1 < phaseLength s.ph := by
      rw [hupc, hlen] at hmore
      exact lt_of_le_of_ne hs.upcInRange hmore
    rw [ht]
    exact ⟨by simpa [hph, hupc] using hnext, fun hidle => absurd hidle hrunning,
      by simpa [hph, hupc, hpull] using hpads, hnotDone⟩
  · obtain ⟨hline, rfl⟩ := lineFlow_eq_goto hback
    obtain ⟨-, -, -, -, hdeadline, -⟩ := currentLine_uses hl
    obtain ⟨hwr, hthree⟩ := hdeadline.mp hline
    rw [hwr, hthree] at hpads
    rw [ht]
    exact ⟨by simp [hph, hwr, phaseLength], fun hidle => absurd hidle hrunning,
      by simpa [hph, hwr, hpull] using hpads.poll_again, hnotDone⟩
  · have hlow : sckHighAt s.ph (s.upc + 1) = false :=
      sckHighAt_succ_of_end hl (hend.imp_right fun hlast => by rw [← hlen, ← hlast.2, hupc])
    rw [ht]
    exact positionInv_endPhase hpads.sckNeverPulled (hpads.sckLevel.trans hlow) hdone

/-! ## Every step keeps the invariant -/

/-- `LAST_TEMP` is written only together with `LTV` (R25). -/
theorem StepWrites.noTempYet {s t : State} (hw : StepWrites s t) (hs : s.ltv = false → s.lastTemp = 0x0000#16) :
    t.ltv = false → t.lastTemp = 0x0000#16 := by
  rw [hw.ltv, hw.lastTemp]
  split
  · simp
  · exact hs

theorem microStep_keeps_engineInv {s t : State} (hs : EngineInv s) (hb : s.ph ≠ .idle) (h : microStep s = .next t) :
    EngineInv t := by
  obtain ⟨hpos, htemp, hparams⟩ := (engineInv_iff s).mp hs
  obtain ⟨-, -, -, hsame⟩ := microStep_frame h
  exact (engineInv_iff t).mpr
    ⟨microStep_keeps_positionInv hpos hb h, (microStep_writes h).noTempYet htemp, hsame ▸ hparams⟩

theorem resetEngine_engineInv {s : State} (hs : EngineInv s) : EngineInv (resetEngine s) :=
  (engineInv_iff _).mpr
    ⟨positionInv_of_upc_zero rfl (fun _ => rfl) PadMode.noConfusion rfl fun _ => rfl, fun _ => rfl, hs.paramsLegal⟩

/-- SCK is low in an idle engine, so it may begin any phase (R110, R121). -/
theorem accept_keeps_engineInv {q : Seq} {p : Phase} {c : Byte} {s : State} (hs : EngineInv s) (hph : s.ph = .idle)
    (hp : p ≠ .idle) : EngineInv (accept q p c s) := by
  have hlow : s.pads.sckLatch = false := by rw [hs.sckLevel, hph]; rfl
  exact (engineInv_iff _).mpr
    ⟨positionInv_of_upc_zero rfl (fun h => absurd h hp) hs.sckNeverPulled hlow fun h => absurd h Bool.false_ne_true,
      hs.noTempYet, hs.paramsLegal⟩

/-- An idle engine stays in the invariant whatever its `done`, `ILL` and environment become. -/
theorem engineInv_idle {s : State} (hs : EngineInv s) (hph : s.ph = .idle) (d i : Bool) (e : Env) :
    EngineInv { s with done := d, ill := i, env := e } :=
  { hs with doneIdle := fun _ => hph }

/-- Every step keeps the invariant, by what the step is (R145). -/
theorem step_keeps_engineInv {s t : State} (hs : EngineInv s) (h : step s = .next t) : EngineInv t := by
  obtain ⟨-, rfl⟩ | ⟨-, hb, hm⟩ | ⟨-, hph, -, ⟨i, -, rfl⟩ | ⟨-, rfl⟩⟩ | ⟨-, hph, -, rfl⟩ := step_cases h
  · exact resetEngine_engineInv hs
  · exact microStep_keeps_engineInv hs hb hm
  · exact accept_keeps_engineInv hs hph (acceptedPhase_ne_idle i)
  · exact engineInv_idle hs hph true true _
  · exact engineInv_idle hs hph false s.ill _

/-! ## No step stops (R140) -/

/-- An idle engine answers every word, legal or not (R121, R130). -/
theorem presentWord_idle_answers (w : Word) {s : State} (hph : s.ph = .idle) : ∃ t, presentWord w s = .next t := by
  cases hw : decode w with
  | ok i => simp only [presentWord, hw]; exact ⟨_, exec_idle i hph⟩
  | error e => exact ⟨_, presentWord_illegal hw hph⟩

/-- A step from a state of the invariant is answered: its position has a line, and no line there samples a driven
DATA. -/
theorem step_answers {s : State} (hs : EngineInv s) : ∃ t, step s = .next t := by
  cases hr : (s.env.hostAt 0).rst with
  | true => exact ⟨_, step_reset hr⟩
  | false =>
    by_cases hph : s.ph = .idle
    · cases hv : (s.env.hostAt 0).cmdValid with
      | true => rw [step_present hr hph hv]; exact presentWord_idle_answers _ hph
      | false => exact ⟨_, step_quiet hr hph hv⟩
    · obtain ⟨l, u, -, -, hstep⟩ := step_running hs hph hr
      exact ⟨_, hstep⟩

/-- Settles O23, by induction on the number of steps: each is answered and keeps the invariant. -/
theorem engineNeverStops : Obligations.EngineNeverStops := by
  intro n
  induction n with
  | zero => exact fun s hs => ⟨s, steps_zero s, hs⟩
  | succ n ih =>
    intro s hs
    obtain ⟨t, ht⟩ := step_answers hs
    rw [steps_succ_of_step ht]
    exact ih t (step_keeps_engineInv hs ht)

end Sys2Proof.Machine
end

section
/-! PROOFS. The reset step (spec/70_reset_and_hazards.md): what it does to the state it finds, busy or idle (R160, R161,
R162). -/

namespace Sys2Proof.Machine

/-- R160, R162: the reset of the engine as an update of the state it finds, of which the strap, the parameters and the
answers to come are left. -/
theorem resetEngine_eq_update (s : State) : resetEngine s = { s with
    seq := .none, ph := .idle, upc := 0, code := 0x00#8, acc := 0x0000#16, val := 0x0000#16, raw := 0x0000#16,
    lastTemp := 0x0000#16, t0 := 0#32, ack1 := false, ack2 := false, tmo := false, ltv := false, ill := false,
    pads := { dataMode := .plainIn, dataLatch := false, sckMode := .plainIn, sckLatch := false }, done := false,
    env := s.env.skipHost 1 } := rfl

/-- Settles O12: `rst` comes before everything else a step looks at, so a reset step is the reset of the engine, in a
busy state too. -/
theorem resetStepResetsEngine : Obligations.ResetStepResetsEngine := by
  intro s hrst
  rw [step_reset hrst, resetEngine_eq_update]

end Sys2Proof.Machine
end

section
/-! PROOFS. The encoding and the invariant as a whole: decoder and encoder are inverse (spec/30_encoding.md R60 to R64), a
step with a legal word presented is the meaning of its instruction (R120, R126), and the invariant holds at reset and is
kept by every step (spec/10_state.md). -/

namespace Sys2Proof

/-! ## The command word (R60 to R64) -/

/-- R63: there is no ill-formed instruction. -/
@[simp] theorem Instr.wf_eq_true (i : Instr) : i.wf = true := by
  cases i <;> rfl

/-- Settles O2: each direction is a law of the decoder. -/
theorem decodeAndEncodeAgree : Obligations.DecodeAndEncodeAgree :=
  ⟨fun i _ => decode_encode i, fun _ i h => ⟨i.wf_eq_true, encode_of_decode h⟩⟩

/-- Settles O5: the legal words are encodings, and each illegal word is computed. -/
theorem decodeOfWrittenOutWords : Obligations.DecodeOfWrittenOutWords :=
  ⟨decode_encode (.sendcmd 0x03#8), decode_encode (.sendcmd 0xFF#8), decode_encode .waitrdy, decode_encode .rdword,
    decode_encode .endtx, decode_encode .meast, decode_encode .meash, by decide, by decide, by decide, by decide⟩

end Sys2Proof

namespace Sys2Proof.Machine

/-! ## A step with a legal word presented (R120, R126) -/

theorem presentWord_legal {w : Word} {i : Instr} (hw : decode w = .ok i) (s : State) : presentWord w s = exec i s := by
  simp only [presentWord, hw]

/-- Settles O6: an idle engine executes the word; for a busy one, `exec` is the running micro-operation too. -/
theorem stepRunsDecodedInstruction : Obligations.StepRunsDecodedInstruction := by
  intro s i hr hv hw _
  by_cases hph : s.ph = .idle
  · exact (step_present hr hph hv).trans (presentWord_legal hw s)
  · exact (step_busy hr hph).trans (exec_busy i hph).symm

/-! ## The invariant (R18, R25, R27, R29, R110, R125) -/

/-- Settles O21: idle, SCK low and not pulled, `LAST_TEMP` at its reset value; the parameters are those of R6. -/
theorem resetSatisfiesInvariant : Obligations.ResetSatisfiesInvariant :=
  (engineInv_iff _).mpr
    ⟨positionInv_of_upc_zero rfl (fun _ => rfl) PadMode.noConfusion rfl fun _ => rfl, fun _ => rfl, Config.params_wf⟩

/-- Settles O22, by the four kinds of step (R145). -/
theorem everyStepKeepsInvariant : Obligations.EveryStepKeepsInvariant := fun _ _ => step_keeps_engineInv

end Sys2Proof.Machine
end
